-- ==== Sys2Proof/Word.lean ====
section
/-! DEFINITION. The plain widths of the block: a byte of `IN` or `OUT`, one bit of `BITS`, an operation word of
the sequencer, a 32-bit host register. -/

namespace Sys2Proof

/-- One byte, "in [0, 255]" (R11). -/
abbrev Byte := BitVec 8

/-- One bit of the bitstream, "values ∈ {0,1}" (R27). -/
abbrev Bit := Bool

/-- A word of the sequencer's operation queue: bits 7:0 select the operation or the element, bits 31:8 hold its
operands. The OPIDs are the spec's (R83); the rest of the layout is the model's (log entry 4). -/
abbrev OpWord := BitVec 32

/-- The width of a host register access (R12, R14: 32 bits by default). -/
abbrev RegWord := BitVec 32

end Sys2Proof
end

