-- ==== Sys2Proof/Machine/BitOrder.lean ====
section
/-! DEFINITION. The two bit orders and the packing of bits into bytes (R43, R44, R45, R92, R93, R94). These are the
only functions of the model that decide an order; every append names the one it uses (R90, R95, R197). -/

namespace Sys2Proof.Machine

/-- The low `n` bits of `v`, least significant first (R92: "for i in [0, n): APPEND_BIT((value >> i) & 1)"). -/
def lsbBits (v n : Nat) : List Bit := (List.range n).map fun i => v.testBit i

/-- The low `n` bits of `v`, most significant first (R93: "for i from n−1 down to 0"). -/
def msbBits (v : Nat) : Nat → List Bit
  | 0 => []
  | n + 1 => v.testBit n :: msbBits v n

/-- The number whose bits, least significant first, are given: Σ bit j × 2^j (R43). -/
def ofLsbBits : List Bit → Nat
  | [] => 0
  | b :: bs => b.toNat + 2 * ofLsbBits bs

/-- The number whose bits, most significant first, are given (R63: the code as a bit string). -/
def ofMsbBits (bs : List Bit) : Nat := bs.foldl (fun acc b => 2 * acc + b.toNat) 0

/-- One output byte from at most 8 bits; a missing bit counts as 0 (R43, R94). -/
def packByte (bs : List Bit) : Byte := BitVec.ofNat 8 (ofLsbBits (bs.take 8))

/-- `bits_to_bytes`: byte k is Σ_{j<8} bit (8k + j) × 2^j, for k in [0, ceil(NBITS/8)) (R43, R94). -/
def bitsToBytes (bs : List Bit) : List Byte :=
  (List.range ((bs.length + 7) / 8)).map fun k => packByte (bs.drop (8 * k))

/-- `bytes_to_bits`: bit 8k + j is bit j of byte k (R45). Not an operation of the block. -/
def bytesToBits (xs : List Byte) : List Bit := xs.flatMap fun x => lsbBits x.toNat 8

end Sys2Proof.Machine
end

