-- ==== Sys2Proof/Syntax.lean ====
section
/-! DEFINITION. The instruction set: one constructor per row of spec/opcode_table.json. The block fetches no
instructions (R18, R53); its "instructions" are the 29 operations of the engine (R83) and the 87 kinds of element of
the output bitstream (R64 to R77, R86). A constructor's arguments are the operands of the operation, or the fields
(`a` to `d`, `x`, the literal's byte) of the element. -/

namespace Sys2Proof

/-- The three alphabets of the block: literal/length, distance, and the code-length ("meta") alphabet (R5, R135). -/
inductive Alphabet where
  | ll
  | dd
  | cl
  deriving DecidableEq, Repr

/-- The operations and elements, in the order of the table. -/
inductive Instr where
  -- BitWriter
  | appendBit (b : Bit)
  | appendBitsLsb (value : Nat) (n : Nat)
  | appendBitsMsb (value : Nat) (n : Nat)
  | finalize
  -- CodeTables
  | lengthLookup (len : Nat)
  | distLookup (dist : Nat)
  -- LZ77
  | lzSearch
  | lzStep
  | lz77
  -- FrequencyTally
  | tally
  -- HuffmanBuilder
  | huffLeaves (a : Alphabet)
  | huffMerge
  | huffExtract (a : Alphabet)
  | huffLimit (a : Alphabet)
  | huffCanon (a : Alphabet)
  | huffBuild (a : Alphabet)
  -- CodeLengthRLE
  | clRle
  | clTally
  -- BlockWriter
  | sizeHlit
  | sizeHdist
  | sizeHclen
  | writeHeader
  | writeCllens
  | writeRle
  | writeLiteral (b : Byte)
  | writeMatch (len : Nat) (dist : Nat)
  | writeTokens
  | writeEob
  -- top level
  | compress
  -- header elements (R65)
  | bfinal
  | btype
  | hlit (a : BitVec 5)
  | hdist (b : BitVec 5)
  | hclen (c : BitVec 4)
  -- meta code lengths (R66)
  | cllenField (d : BitVec 3)
  -- code-length section (R67 to R71)
  | cl0
  | cl1
  | cl2
  | cl3
  | cl4
  | cl5
  | cl6
  | cl7
  | cl8
  | cl9
  | cl10
  | cl11
  | cl12
  | cl13
  | cl14
  | cl15
  | cl16 (x : BitVec 2)
  | cl17 (x : BitVec 3)
  | cl18 (x : BitVec 7)
  -- token section (R72 to R75)
  | literal (b : Byte)
  -- end of block (R76)
  | eob
  -- length elements (R73, R102)
  | len257
  | len258
  | len259
  | len260
  | len261
  | len262
  | len263
  | len264
  | len265 (x : BitVec 1)
  | len266 (x : BitVec 1)
  | len267 (x : BitVec 1)
  | len268 (x : BitVec 1)
  | len269 (x : BitVec 2)
  | len270 (x : BitVec 2)
  | len271 (x : BitVec 2)
  | len272 (x : BitVec 2)
  | len273 (x : BitVec 3)
  | len274 (x : BitVec 3)
  | len275 (x : BitVec 3)
  | len276 (x : BitVec 3)
  | len277 (x : BitVec 4)
  | len278 (x : BitVec 4)
  | len279 (x : BitVec 4)
  | len280 (x : BitVec 4)
  | len281 (x : BitVec 5)
  | len282 (x : BitVec 5)
  | len283 (x : BitVec 5)
  | len284 (x : BitVec 5)
  | len285
  -- distance elements (R74, R104)
  | dist0
  | dist1
  | dist2
  | dist3
  | dist4 (x : BitVec 1)
  | dist5 (x : BitVec 1)
  | dist6 (x : BitVec 2)
  | dist7 (x : BitVec 2)
  | dist8 (x : BitVec 3)
  | dist9 (x : BitVec 3)
  | dist10 (x : BitVec 4)
  | dist11 (x : BitVec 4)
  | dist12 (x : BitVec 5)
  | dist13 (x : BitVec 5)
  | dist14 (x : BitVec 6)
  | dist15 (x : BitVec 6)
  | dist16 (x : BitVec 7)
  | dist17 (x : BitVec 7)
  | dist18 (x : BitVec 8)
  | dist19 (x : BitVec 8)
  | dist20 (x : BitVec 9)
  | dist21 (x : BitVec 9)
  | dist22 (x : BitVec 10)
  | dist23 (x : BitVec 10)
  | dist24 (x : BitVec 11)
  | dist25 (x : BitVec 11)
  | dist26 (x : BitVec 12)
  | dist27 (x : BitVec 12)
  | dist28 (x : BitVec 13)
  | dist29 (x : BitVec 13)
  -- padding (R77)
  | pad
  deriving DecidableEq, Repr

end Sys2Proof
end

