-- ==== Sys2Proof/WellFormed.lean ====
section
/-! DEFINITION. Which instructions are well formed: the operand ranges of R92, R101, R103, R60 and the field values
that R65 and R81 say are never emitted. -/

namespace Sys2Proof

/-- The operands are in the ranges the spec gives. The append operations take any natural (D16); an operation word
carries `n ≤ 16` (R92's bound for a realisation) and 16 bits of `value`. A header field of 30 or 31 and the extra
value 31 of code 284 do not exist (R65, R81). -/
def Instr.wf : Instr → Bool
  | .appendBitsLsb value n => decide (value < 65536) && decide (n ≤ 16)
  | .appendBitsMsb value n => decide (value < 65536) && decide (n ≤ 16)
  | .lengthLookup len => decide (3 ≤ len) && decide (len ≤ 258)
  | .distLookup dist => decide (1 ≤ dist) && decide (dist ≤ 32768)
  | .writeMatch len dist => decide (3 ≤ len) && decide (len ≤ 258) && decide (1 ≤ dist) && decide (dist ≤ 32768)
  | .hlit a => decide (a.toNat ≤ 29)
  | .hdist b => decide (b.toNat ≤ 29)
  | .len284 x => decide (x.toNat ≠ 31)
  | .appendBit _ | .finalize | .lzSearch | .lzStep | .lz77 | .tally | .huffLeaves _ | .huffMerge
  | .huffExtract _ | .huffLimit _ | .huffCanon _ | .huffBuild _ | .clRle | .clTally | .sizeHlit | .sizeHdist
  | .sizeHclen | .writeHeader | .writeCllens | .writeRle | .writeLiteral _ | .writeTokens | .writeEob
  | .compress | .bfinal | .btype | .hclen _ | .cllenField _ | .cl0 | .cl1 | .cl2 | .cl3 | .cl4 | .cl5 | .cl6
  | .cl7 | .cl8 | .cl9 | .cl10 | .cl11 | .cl12 | .cl13 | .cl14 | .cl15 | .cl16 _ | .cl17 _ | .cl18 _
  | .literal _ | .eob | .len257 | .len258 | .len259 | .len260 | .len261 | .len262 | .len263 | .len264
  | .len265 _ | .len266 _ | .len267 _ | .len268 _ | .len269 _ | .len270 _ | .len271 _ | .len272 _ | .len273 _
  | .len274 _ | .len275 _ | .len276 _ | .len277 _ | .len278 _ | .len279 _ | .len280 _ | .len281 _ | .len282 _
  | .len283 _ | .len285 | .dist0 | .dist1 | .dist2 | .dist3 | .dist4 _ | .dist5 _ | .dist6 _ | .dist7 _
  | .dist8 _ | .dist9 _ | .dist10 _ | .dist11 _ | .dist12 _ | .dist13 _ | .dist14 _ | .dist15 _ | .dist16 _
  | .dist17 _ | .dist18 _ | .dist19 _ | .dist20 _ | .dist21 _ | .dist22 _ | .dist23 _ | .dist24 _ | .dist25 _
  | .dist26 _ | .dist27 _ | .dist28 _ | .dist29 _ | .pad => true

end Sys2Proof
end

