-- ==== Sys2Proof/Decode.lean ====
section
/-! DEFINITION. The decoder and the encoder, twice: of the operation words the sequencer fetches (selectors: the
OPIDs of R83, and one label per element row of the table), and of the elements of the output bitstream (R64 to R80),
which is the bit-exact format. -/

namespace Sys2Proof

open Sys2Proof.Machine (lsbBits msbBits ofLsbBits)

/-! ## Operation words -/

/-- Why a word is no instruction. -/
inductive DecodeError where
  /-- bits 7:6 are 0 and bits 5:0 are no OPID of R83 -/
  | unassignedOpid
  /-- bits 7:0 are above the last element label -/
  | unassignedSelector
  /-- an operand bit that the row does not have is 1 -/
  | reservedBits
  /-- alphabet 3 does not exist (R135) -/
  | badAlphabet
  /-- an append of more than 16 bits (R92) -/
  | badCount
  /-- a field value that is never emitted (R65, R81) -/
  | neverEmitted
  deriving DecidableEq, Repr

/-- A row without operands. -/
def noOperand (i : Instr) (w : Nat) : Except DecodeError Instr :=
  if w = 0 then .ok i else .error .reservedBits

/-- One operand in the low `k` operand bits. -/
def fieldOperand (k : Nat) (f : Nat → Instr) (w : Nat) : Except DecodeError Instr :=
  if w < 2 ^ k then .ok (f w) else .error .reservedBits

/-- The HuffmanBuilder instance of R135: 0 LL, 1 DD, 2 CL. -/
def alphabetOperand (f : Alphabet → Instr) (w : Nat) : Except DecodeError Instr :=
  if w = 0 then .ok (f .ll) else if w = 1 then .ok (f .dd) else if w = 2 then .ok (f .cl)
  else .error .badAlphabet

/-- `value` in operand bits 15:0, `n` above it (R92, R93). -/
def countOperand (f : Nat → Nat → Instr) (w : Nat) : Except DecodeError Instr :=
  if w / 65536 ≤ 16 then .ok (f (w % 65536) (w / 65536)) else .error .badCount

/-- `distance − 1` in operand bits 14:0 and `length − 3` in bits 22:15, the fields of the packed token word (R61). -/
def matchOperand (f : Nat → Nat → Instr) (w : Nat) : Except DecodeError Instr :=
  if w < 2 ^ 23 then .ok (f (w / 32768 + 3) (w % 32768 + 1)) else .error .reservedBits

/-- The operation rows: OPID (R83) and how the operands are read. -/
def opRows : List (Nat × (Nat → Except DecodeError Instr)) :=
  [(0x01, fieldOperand 1 fun w => .appendBit (w == 1)),
   (0x02, countOperand .appendBitsLsb),
   (0x03, countOperand .appendBitsMsb),
   (0x04, noOperand .finalize),
   (0x08, fieldOperand 8 fun w => .lengthLookup (w + 3)),
   (0x09, fieldOperand 15 fun w => .distLookup (w + 1)),
   (0x10, noOperand .lzSearch),
   (0x11, noOperand .lzStep),
   (0x12, noOperand .lz77),
   (0x18, noOperand .tally)] ++
  [(0x20, alphabetOperand .huffLeaves),
   (0x21, noOperand .huffMerge),
   (0x22, alphabetOperand .huffExtract),
   (0x23, alphabetOperand .huffLimit),
   (0x24, alphabetOperand .huffCanon),
   (0x25, alphabetOperand .huffBuild),
   (0x28, noOperand .clRle),
   (0x29, noOperand .clTally),
   (0x30, noOperand .sizeHlit),
   (0x31, noOperand .sizeHdist)] ++
  [(0x32, noOperand .sizeHclen),
   (0x33, noOperand .writeHeader),
   (0x34, noOperand .writeCllens),
   (0x35, noOperand .writeRle),
   (0x36, fieldOperand 8 fun w => .writeLiteral (BitVec.ofNat 8 w)),
   (0x37, matchOperand .writeMatch),
   (0x38, noOperand .writeTokens),
   (0x39, noOperand .writeEob),
   (0x3F, noOperand .compress)]

/-- The header fields and the meta code length (R65, R66). -/
def headerRows : List (Nat × (Nat → Instr)) :=
  [(0, fun _ => .bfinal),
   (0, fun _ => .btype),
   (5, fun w => .hlit (BitVec.ofNat 5 w)),
   (5, fun w => .hdist (BitVec.ofNat 5 w)),
   (4, fun w => .hclen (BitVec.ofNat 4 w)),
   (3, fun w => .cllenField (BitVec.ofNat 3 w))]

/-- The meta symbols (R68 to R71). -/
def metaRows : List (Nat × (Nat → Instr)) :=
  [(0, fun _ => .cl0),
   (0, fun _ => .cl1),
   (0, fun _ => .cl2),
   (0, fun _ => .cl3),
   (0, fun _ => .cl4),
   (0, fun _ => .cl5),
   (0, fun _ => .cl6),
   (0, fun _ => .cl7),
   (0, fun _ => .cl8),
   (0, fun _ => .cl9),
   (0, fun _ => .cl10),
   (0, fun _ => .cl11),
   (0, fun _ => .cl12),
   (0, fun _ => .cl13),
   (0, fun _ => .cl14),
   (0, fun _ => .cl15),
   (2, fun w => .cl16 (BitVec.ofNat 2 w)),
   (3, fun w => .cl17 (BitVec.ofNat 3 w)),
   (7, fun w => .cl18 (BitVec.ofNat 7 w))]

/-- The literal, end of block and length elements (R72, R73, R76). -/
def tokenRows : List (Nat × (Nat → Instr)) :=
  [(8, fun w => .literal (BitVec.ofNat 8 w)),
   (0, fun _ => .eob),
   (0, fun _ => .len257),
   (0, fun _ => .len258),
   (0, fun _ => .len259),
   (0, fun _ => .len260),
   (0, fun _ => .len261),
   (0, fun _ => .len262),
   (0, fun _ => .len263),
   (0, fun _ => .len264),
   (1, fun w => .len265 (BitVec.ofNat 1 w)),
   (1, fun w => .len266 (BitVec.ofNat 1 w)),
   (1, fun w => .len267 (BitVec.ofNat 1 w)),
   (1, fun w => .len268 (BitVec.ofNat 1 w)),
   (2, fun w => .len269 (BitVec.ofNat 2 w)),
   (2, fun w => .len270 (BitVec.ofNat 2 w)),
   (2, fun w => .len271 (BitVec.ofNat 2 w)),
   (2, fun w => .len272 (BitVec.ofNat 2 w)),
   (3, fun w => .len273 (BitVec.ofNat 3 w)),
   (3, fun w => .len274 (BitVec.ofNat 3 w)),
   (3, fun w => .len275 (BitVec.ofNat 3 w)),
   (3, fun w => .len276 (BitVec.ofNat 3 w)),
   (4, fun w => .len277 (BitVec.ofNat 4 w)),
   (4, fun w => .len278 (BitVec.ofNat 4 w)),
   (4, fun w => .len279 (BitVec.ofNat 4 w)),
   (4, fun w => .len280 (BitVec.ofNat 4 w)),
   (5, fun w => .len281 (BitVec.ofNat 5 w)),
   (5, fun w => .len282 (BitVec.ofNat 5 w)),
   (5, fun w => .len283 (BitVec.ofNat 5 w)),
   (5, fun w => .len284 (BitVec.ofNat 5 w)),
   (0, fun _ => .len285)]

/-- The distance elements (R74). -/
def distanceRows : List (Nat × (Nat → Instr)) :=
  [(0, fun _ => .dist0),
   (0, fun _ => .dist1),
   (0, fun _ => .dist2),
   (0, fun _ => .dist3),
   (1, fun w => .dist4 (BitVec.ofNat 1 w)),
   (1, fun w => .dist5 (BitVec.ofNat 1 w)),
   (2, fun w => .dist6 (BitVec.ofNat 2 w)),
   (2, fun w => .dist7 (BitVec.ofNat 2 w)),
   (3, fun w => .dist8 (BitVec.ofNat 3 w)),
   (3, fun w => .dist9 (BitVec.ofNat 3 w)),
   (4, fun w => .dist10 (BitVec.ofNat 4 w)),
   (4, fun w => .dist11 (BitVec.ofNat 4 w)),
   (5, fun w => .dist12 (BitVec.ofNat 5 w)),
   (5, fun w => .dist13 (BitVec.ofNat 5 w)),
   (6, fun w => .dist14 (BitVec.ofNat 6 w)),
   (6, fun w => .dist15 (BitVec.ofNat 6 w)),
   (7, fun w => .dist16 (BitVec.ofNat 7 w)),
   (7, fun w => .dist17 (BitVec.ofNat 7 w)),
   (8, fun w => .dist18 (BitVec.ofNat 8 w)),
   (8, fun w => .dist19 (BitVec.ofNat 8 w)),
   (9, fun w => .dist20 (BitVec.ofNat 9 w)),
   (9, fun w => .dist21 (BitVec.ofNat 9 w)),
   (10, fun w => .dist22 (BitVec.ofNat 10 w)),
   (10, fun w => .dist23 (BitVec.ofNat 10 w)),
   (11, fun w => .dist24 (BitVec.ofNat 11 w)),
   (11, fun w => .dist25 (BitVec.ofNat 11 w)),
   (12, fun w => .dist26 (BitVec.ofNat 12 w)),
   (12, fun w => .dist27 (BitVec.ofNat 12 w)),
   (13, fun w => .dist28 (BitVec.ofNat 13 w)),
   (13, fun w => .dist29 (BitVec.ofNat 13 w))]

/-- The element rows in the table's order: how many operand bits the row has (the width of its field `a`..`d`, its
extra bits `x`, the literal's byte) and the element with that operand. -/
def elementRows : List (Nat × (Nat → Instr)) :=
  headerRows ++ (metaRows ++ (tokenRows ++ (distanceRows ++ [(0, fun _ => .pad)])))

/-- The instruction of a word: selector in bits 7:0, operands above. Total: a word that is no instruction is rejected
by name. -/
def decodeNat (n : Nat) : Except DecodeError Instr :=
  if n % 256 < 64 then
    match opRows.lookup (n % 256) with
    | some read => read (n / 256)
    | none => .error .unassignedOpid
  else
    match elementRows[n % 256 - 64]? with
    | some (k, f) =>
      if n / 256 < 2 ^ k then
        if (f (n / 256)).wf then .ok (f (n / 256)) else .error .neverEmitted
      else .error .reservedBits
    | none => .error .unassignedSelector

/-- The decoder of operation words. -/
def decode (w : OpWord) : Except DecodeError Instr := decodeNat w.toNat

/-- The instruction of a table row's word, bit 0 the least significant bit of the OPID; every bit above `nbits` is 0
(log entry 4). -/
def decodeTableWord (nbits w : Nat) : Option Instr :=
  match decodeNat (w % 2 ^ nbits) with
  | .ok i => some i
  | .error _ => none

/-- Bits 7:0 of an instruction's word: the OPID of R83, or 64 + the element row's place in the table. -/
def Instr.selector : Instr → Nat
  | .appendBit _ => 0x01
  | .appendBitsLsb _ _ => 0x02
  | .appendBitsMsb _ _ => 0x03
  | .finalize => 0x04
  | .lengthLookup _ => 0x08
  | .distLookup _ => 0x09
  | .lzSearch => 0x10
  | .lzStep => 0x11
  | .lz77 => 0x12
  | .tally => 0x18
  | .huffLeaves _ => 0x20
  | .huffMerge => 0x21
  | .huffExtract _ => 0x22
  | .huffLimit _ => 0x23
  | .huffCanon _ => 0x24
  | .huffBuild _ => 0x25
  | .clRle => 0x28
  | .clTally => 0x29
  | .sizeHlit => 0x30
  | .sizeHdist => 0x31
  | .sizeHclen => 0x32
  | .writeHeader => 0x33
  | .writeCllens => 0x34
  | .writeRle => 0x35
  | .writeLiteral _ => 0x36
  | .writeMatch _ _ => 0x37
  | .writeTokens => 0x38
  | .writeEob => 0x39
  | .compress => 0x3F
  | .bfinal => 64
  | .btype => 65
  | .hlit _ => 66
  | .hdist _ => 67
  | .hclen _ => 68
  | .cllenField _ => 69
  | .cl0 => 70
  | .cl1 => 71
  | .cl2 => 72
  | .cl3 => 73
  | .cl4 => 74
  | .cl5 => 75
  | .cl6 => 76
  | .cl7 => 77
  | .cl8 => 78
  | .cl9 => 79
  | .cl10 => 80
  | .cl11 => 81
  | .cl12 => 82
  | .cl13 => 83
  | .cl14 => 84
  | .cl15 => 85
  | .cl16 _ => 86
  | .cl17 _ => 87
  | .cl18 _ => 88
  | .literal _ => 89
  | .eob => 90
  | .len257 => 91
  | .len258 => 92
  | .len259 => 93
  | .len260 => 94
  | .len261 => 95
  | .len262 => 96
  | .len263 => 97
  | .len264 => 98
  | .len265 _ => 99
  | .len266 _ => 100
  | .len267 _ => 101
  | .len268 _ => 102
  | .len269 _ => 103
  | .len270 _ => 104
  | .len271 _ => 105
  | .len272 _ => 106
  | .len273 _ => 107
  | .len274 _ => 108
  | .len275 _ => 109
  | .len276 _ => 110
  | .len277 _ => 111
  | .len278 _ => 112
  | .len279 _ => 113
  | .len280 _ => 114
  | .len281 _ => 115
  | .len282 _ => 116
  | .len283 _ => 117
  | .len284 _ => 118
  | .len285 => 119
  | .dist0 => 120
  | .dist1 => 121
  | .dist2 => 122
  | .dist3 => 123
  | .dist4 _ => 124
  | .dist5 _ => 125
  | .dist6 _ => 126
  | .dist7 _ => 127
  | .dist8 _ => 128
  | .dist9 _ => 129
  | .dist10 _ => 130
  | .dist11 _ => 131
  | .dist12 _ => 132
  | .dist13 _ => 133
  | .dist14 _ => 134
  | .dist15 _ => 135
  | .dist16 _ => 136
  | .dist17 _ => 137
  | .dist18 _ => 138
  | .dist19 _ => 139
  | .dist20 _ => 140
  | .dist21 _ => 141
  | .dist22 _ => 142
  | .dist23 _ => 143
  | .dist24 _ => 144
  | .dist25 _ => 145
  | .dist26 _ => 146
  | .dist27 _ => 147
  | .dist28 _ => 148
  | .dist29 _ => 149
  | .pad => 150

/-- The number of an alphabet (R135). -/
def Alphabet.number : Alphabet → Nat
  | .ll => 0
  | .dd => 1
  | .cl => 2

/-- Bits 31:8 of an instruction's word. -/
def Instr.operand : Instr → Nat
  | .appendBit b => b.toNat
  | .appendBitsLsb value n => value + 65536 * n
  | .appendBitsMsb value n => value + 65536 * n
  | .lengthLookup len => len - 3
  | .distLookup dist => dist - 1
  | .huffLeaves a => a.number
  | .huffExtract a => a.number
  | .huffLimit a => a.number
  | .huffCanon a => a.number
  | .huffBuild a => a.number
  | .writeLiteral b => b.toNat
  | .writeMatch len dist => (dist - 1) + 32768 * (len - 3)
  | .hlit a => a.toNat
  | .hdist b => b.toNat
  | .hclen c => c.toNat
  | .cllenField d => d.toNat
  | .cl16 x => x.toNat
  | .cl17 x => x.toNat
  | .cl18 x => x.toNat
  | .literal b => b.toNat
  | .len265 x => x.toNat
  | .len266 x => x.toNat
  | .len267 x => x.toNat
  | .len268 x => x.toNat
  | .len269 x => x.toNat
  | .len270 x => x.toNat
  | .len271 x => x.toNat
  | .len272 x => x.toNat
  | .len273 x => x.toNat
  | .len274 x => x.toNat
  | .len275 x => x.toNat
  | .len276 x => x.toNat
  | .len277 x => x.toNat
  | .len278 x => x.toNat
  | .len279 x => x.toNat
  | .len280 x => x.toNat
  | .len281 x => x.toNat
  | .len282 x => x.toNat
  | .len283 x => x.toNat
  | .len284 x => x.toNat
  | .dist4 x => x.toNat
  | .dist5 x => x.toNat
  | .dist6 x => x.toNat
  | .dist7 x => x.toNat
  | .dist8 x => x.toNat
  | .dist9 x => x.toNat
  | .dist10 x => x.toNat
  | .dist11 x => x.toNat
  | .dist12 x => x.toNat
  | .dist13 x => x.toNat
  | .dist14 x => x.toNat
  | .dist15 x => x.toNat
  | .dist16 x => x.toNat
  | .dist17 x => x.toNat
  | .dist18 x => x.toNat
  | .dist19 x => x.toNat
  | .dist20 x => x.toNat
  | .dist21 x => x.toNat
  | .dist22 x => x.toNat
  | .dist23 x => x.toNat
  | .dist24 x => x.toNat
  | .dist25 x => x.toNat
  | .dist26 x => x.toNat
  | .dist27 x => x.toNat
  | .dist28 x => x.toNat
  | .dist29 x => x.toNat
  | .finalize | .lzSearch | .lzStep | .lz77 | .tally | .huffMerge | .clRle | .clTally | .sizeHlit | .sizeHdist
  | .sizeHclen | .writeHeader | .writeCllens | .writeRle | .writeTokens | .writeEob | .compress | .bfinal
  | .btype | .cl0 | .cl1 | .cl2 | .cl3 | .cl4 | .cl5 | .cl6 | .cl7 | .cl8 | .cl9 | .cl10 | .cl11 | .cl12
  | .cl13 | .cl14 | .cl15 | .eob | .len257 | .len258 | .len259 | .len260 | .len261 | .len262 | .len263
  | .len264 | .len285 | .dist0 | .dist1 | .dist2 | .dist3 | .pad => 0

/-- The word of a well-formed instruction. -/
def encode (i : Instr) : OpWord := BitVec.ofNat 32 (i.selector + 256 * i.operand)

/-! ## Elements of the output bitstream -/

/-- The three canonical code tables a reader of the stream needs: lengths and code values per symbol (R24, R63). -/
structure CodeBook where
  llLen : List Nat
  llCode : List Nat
  ddLen : List Nat
  ddCode : List Nat
  clLen : List Nat
  clCode : List Nat
  deriving DecidableEq, Repr

/-- The lengths of an alphabet. -/
def CodeBook.lens (k : CodeBook) : Alphabet → List Nat
  | .ll => k.llLen
  | .dd => k.ddLen
  | .cl => k.clLen

/-- The code values of an alphabet. -/
def CodeBook.codes (k : CodeBook) : Alphabet → List Nat
  | .ll => k.llCode
  | .dd => k.ddCode
  | .cl => k.clCode

/-- The form of an element (R86): a fixed-width LSB-first field, or a symbol's Huffman code MSB-first followed by
extra bits LSB-first. -/
inductive Element where
  | field (value width : Nat)
  | coded (a : Alphabet) (symbol value extra : Nat)
  deriving DecidableEq, Repr

/-- The form of each element row; none for an operation, and none for the padding, whose bits the position in the
stream decides (R77). -/
def Instr.element? : Instr → Option Element
  | .bfinal => some (.field 1 1)
  | .btype => some (.field 2 2)
  | .hlit a => some (.field a.toNat 5)
  | .hdist b => some (.field b.toNat 5)
  | .hclen c => some (.field c.toNat 4)
  | .cllenField d => some (.field d.toNat 3)
  | .cl0 => some (.coded .cl 0 0 0)
  | .cl1 => some (.coded .cl 1 0 0)
  | .cl2 => some (.coded .cl 2 0 0)
  | .cl3 => some (.coded .cl 3 0 0)
  | .cl4 => some (.coded .cl 4 0 0)
  | .cl5 => some (.coded .cl 5 0 0)
  | .cl6 => some (.coded .cl 6 0 0)
  | .cl7 => some (.coded .cl 7 0 0)
  | .cl8 => some (.coded .cl 8 0 0)
  | .cl9 => some (.coded .cl 9 0 0)
  | .cl10 => some (.coded .cl 10 0 0)
  | .cl11 => some (.coded .cl 11 0 0)
  | .cl12 => some (.coded .cl 12 0 0)
  | .cl13 => some (.coded .cl 13 0 0)
  | .cl14 => some (.coded .cl 14 0 0)
  | .cl15 => some (.coded .cl 15 0 0)
  | .cl16 x => some (.coded .cl 16 x.toNat 2)
  | .cl17 x => some (.coded .cl 17 x.toNat 3)
  | .cl18 x => some (.coded .cl 18 x.toNat 7)
  | .literal b => some (.coded .ll b.toNat 0 0)
  | .eob => some (.coded .ll 256 0 0)
  | .len257 => some (.coded .ll 257 0 0)
  | .len258 => some (.coded .ll 258 0 0)
  | .len259 => some (.coded .ll 259 0 0)
  | .len260 => some (.coded .ll 260 0 0)
  | .len261 => some (.coded .ll 261 0 0)
  | .len262 => some (.coded .ll 262 0 0)
  | .len263 => some (.coded .ll 263 0 0)
  | .len264 => some (.coded .ll 264 0 0)
  | .len265 x => some (.coded .ll 265 x.toNat 1)
  | .len266 x => some (.coded .ll 266 x.toNat 1)
  | .len267 x => some (.coded .ll 267 x.toNat 1)
  | .len268 x => some (.coded .ll 268 x.toNat 1)
  | .len269 x => some (.coded .ll 269 x.toNat 2)
  | .len270 x => some (.coded .ll 270 x.toNat 2)
  | .len271 x => some (.coded .ll 271 x.toNat 2)
  | .len272 x => some (.coded .ll 272 x.toNat 2)
  | .len273 x => some (.coded .ll 273 x.toNat 3)
  | .len274 x => some (.coded .ll 274 x.toNat 3)
  | .len275 x => some (.coded .ll 275 x.toNat 3)
  | .len276 x => some (.coded .ll 276 x.toNat 3)
  | .len277 x => some (.coded .ll 277 x.toNat 4)
  | .len278 x => some (.coded .ll 278 x.toNat 4)
  | .len279 x => some (.coded .ll 279 x.toNat 4)
  | .len280 x => some (.coded .ll 280 x.toNat 4)
  | .len281 x => some (.coded .ll 281 x.toNat 5)
  | .len282 x => some (.coded .ll 282 x.toNat 5)
  | .len283 x => some (.coded .ll 283 x.toNat 5)
  | .len284 x => some (.coded .ll 284 x.toNat 5)
  | .len285 => some (.coded .ll 285 0 0)
  | .dist0 => some (.coded .dd 0 0 0)
  | .dist1 => some (.coded .dd 1 0 0)
  | .dist2 => some (.coded .dd 2 0 0)
  | .dist3 => some (.coded .dd 3 0 0)
  | .dist4 x => some (.coded .dd 4 x.toNat 1)
  | .dist5 x => some (.coded .dd 5 x.toNat 1)
  | .dist6 x => some (.coded .dd 6 x.toNat 2)
  | .dist7 x => some (.coded .dd 7 x.toNat 2)
  | .dist8 x => some (.coded .dd 8 x.toNat 3)
  | .dist9 x => some (.coded .dd 9 x.toNat 3)
  | .dist10 x => some (.coded .dd 10 x.toNat 4)
  | .dist11 x => some (.coded .dd 11 x.toNat 4)
  | .dist12 x => some (.coded .dd 12 x.toNat 5)
  | .dist13 x => some (.coded .dd 13 x.toNat 5)
  | .dist14 x => some (.coded .dd 14 x.toNat 6)
  | .dist15 x => some (.coded .dd 15 x.toNat 6)
  | .dist16 x => some (.coded .dd 16 x.toNat 7)
  | .dist17 x => some (.coded .dd 17 x.toNat 7)
  | .dist18 x => some (.coded .dd 18 x.toNat 8)
  | .dist19 x => some (.coded .dd 19 x.toNat 8)
  | .dist20 x => some (.coded .dd 20 x.toNat 9)
  | .dist21 x => some (.coded .dd 21 x.toNat 9)
  | .dist22 x => some (.coded .dd 22 x.toNat 10)
  | .dist23 x => some (.coded .dd 23 x.toNat 10)
  | .dist24 x => some (.coded .dd 24 x.toNat 11)
  | .dist25 x => some (.coded .dd 25 x.toNat 11)
  | .dist26 x => some (.coded .dd 26 x.toNat 12)
  | .dist27 x => some (.coded .dd 27 x.toNat 12)
  | .dist28 x => some (.coded .dd 28 x.toNat 13)
  | .dist29 x => some (.coded .dd 29 x.toNat 13)
  | .appendBit _ | .appendBitsLsb _ _ | .appendBitsMsb _ _ | .finalize | .lengthLookup _ | .distLookup _
  | .lzSearch | .lzStep | .lz77 | .tally | .huffLeaves _ | .huffMerge | .huffExtract _ | .huffLimit _
  | .huffCanon _ | .huffBuild _ | .clRle | .clTally | .sizeHlit | .sizeHdist | .sizeHclen | .writeHeader
  | .writeCllens | .writeRle | .writeLiteral _ | .writeMatch _ _ | .writeTokens | .writeEob | .compress | .pad => none

/-- The bits of an element in stream order (R65 to R76); none if its symbol has no code (R164) or it is no element. -/
def encodeElement (k : CodeBook) (i : Instr) : Option (List Bit) :=
  match i.element? with
  | some (.field v n) => some (lsbBits v n)
  | some (.coded a s v n) =>
    if (k.lens a).getD s 0 = 0 then none
    else some (msbBits ((k.codes a).getD s 0) ((k.lens a).getD s 0) ++ lsbBits v n)
  | none => none

/-- The padding that completes the last byte after `nbits` bits: `(8 − NBITS mod 8) mod 8` zeros (R46, R77). -/
def padBits (nbits : Nat) : List Bit := List.replicate ((8 - nbits % 8) % 8) false

/-- What stands next in the stream; it is positional (R80). -/
inductive Position where
  | bfinal
  | btype
  | hlit
  | hdist
  | hclen
  | cllen
  | codeLength
  | token
  | distance
  deriving DecidableEq, Repr

/-- Why the bits at a position are no element the block emits (R81). -/
inductive StreamError where
  | endOfBits
  | noCode
  | neverEmitted
  deriving DecidableEq, Repr

/-- A fixed-width LSB-first field and the bits after it. -/
def readField (n : Nat) (bs : List Bit) : Except StreamError (Nat × List Bit) :=
  if n ≤ bs.length then .ok (ofLsbBits (bs.take n), bs.drop n) else .error .endOfBits

/-- The (smallest) symbol of length `n` whose code is the next `n` bits, MSB-first. -/
def symbolOfLength (lens codes : List Nat) (bs : List Bit) (n : Nat) : Option Nat :=
  (lens.zipIdx.find? fun e => e.1 == n && bs.take n == msbBits (codes.getD e.2 0) n).map Prod.snd

/-- Walks the bits until they spell a code of the alphabet (R80: lengths 1 to 15). -/
def readSymbol (lens codes : List Nat) (bs : List Bit) : Except StreamError (Nat × List Bit) :=
  match (List.range 15).findSome? fun k =>
      (symbolOfLength lens codes bs (k + 1)).map fun s => (s, bs.drop (k + 1)) with
  | some r => .ok r
  | none => .error .noCode

/-- The place of a symbol's row in `elementRows`; none outside the alphabets, which end at 285, 29 and 18 (R5). -/
def elementIndex (a : Alphabet) (s : Nat) : Option Nat :=
  match a with
  | .cl => if s < 19 then some (6 + s) else none
  | .ll => if s < 256 then some 25 else if s < 286 then some (s - 256 + 26) else none
  | .dd => if s < 30 then some (56 + s) else none

/-- The element of a symbol and the bits after its extra bits. A literal's byte is the symbol itself (R72). -/
def readExtra (a : Alphabet) (s : Nat) (bs : List Bit) : Except StreamError (Instr × List Bit) :=
  if a = .ll ∧ s < 256 then .ok (.literal (BitVec.ofNat 8 s), bs)
  else
    match (elementIndex a s).bind (elementRows[·]?) with
    | some (k, f) => do
      let (v, rest) ← readField k bs
      if (f v).wf then .ok (f v, rest) else .error .neverEmitted
    | none => .error .noCode

/-- A fixed-width field whose value is the element's operand. -/
def readHeader (n : Nat) (f : Nat → Instr) (bs : List Bit) : Except StreamError (Instr × List Bit) := do
  let (v, rest) ← readField n bs
  if (f v).wf then .ok (f v, rest) else .error .neverEmitted

/-- A field that has one value only: BFINAL is 1 and BTYPE is 2 (R81). -/
def readConstant (n value : Nat) (i : Instr) (bs : List Bit) : Except StreamError (Instr × List Bit) := do
  let (v, rest) ← readField n bs
  if v = value then .ok (i, rest) else .error .neverEmitted

/-- The element that stands at a position of the stream, and the bits after it (R80). Total; what the block never
emits is rejected by name. -/
def decodeElement (p : Position) (k : CodeBook) (bs : List Bit) : Except StreamError (Instr × List Bit) :=
  match p with
  | .bfinal => readConstant 1 1 .bfinal bs
  | .btype => readConstant 2 2 .btype bs
  | .hlit => readHeader 5 (fun v => .hlit (BitVec.ofNat 5 v)) bs
  | .hdist => readHeader 5 (fun v => .hdist (BitVec.ofNat 5 v)) bs
  | .hclen => readHeader 4 (fun v => .hclen (BitVec.ofNat 4 v)) bs
  | .cllen => readHeader 3 (fun v => .cllenField (BitVec.ofNat 3 v)) bs
  | .codeLength => do
      let (s, rest) ← readSymbol k.clLen k.clCode bs
      readExtra .cl s rest
  | .token => do
      let (s, rest) ← readSymbol k.llLen k.llCode bs
      readExtra .ll s rest
  | .distance => do
      let (s, rest) ← readSymbol k.ddLen k.ddCode bs
      readExtra .dd s rest

end Sys2Proof
end

