-- ==== Sys2Proof/Config.lean ====
section
/-! DEFINITION. What does not change while the block runs: the parameters the source fixes (R5), the two it leaves
open with the spec's decided defaults (R6, R34), and the free values, which no definition gives. -/

namespace Sys2Proof.Config

/-! Parameters the source fixes (R5). -/

/-- `WINDOW_SIZE`: farthest distance a match may reach back. -/
def windowSize : Nat := 32768
/-- `MIN_MATCH`: shortest match. -/
def minMatch : Nat := 3
/-- `MAX_MATCH`: longest match. -/
def maxMatch : Nat := 258
/-- `LL_SIZE`: symbols 0..285. -/
def llSize : Nat := 286
/-- `DD_SIZE`: symbols 0..29. -/
def ddSize : Nat := 30
/-- `CL_SIZE`: symbols 0..18. -/
def clSize : Nat := 19
/-- `EOB`: end-of-block symbol of the LL alphabet. -/
def eobSymbol : Nat := 256
/-- `MAX_LEN_LLDD`: longest LL or DD code, in bits. -/
def maxLenLLDD : Nat := 15
/-- `MAX_LEN_CL`: longest meta code, in bits. -/
def maxLenCL : Nat := 7

/-! Parameters the source leaves open (R6, R34). Shared operations take them as an argument, so that a claim may
range over every conforming realisation; `exec` and `step` use the decided defaults (log entries 1 and 2). -/

/-- The open parameters of the step relation: `MAX_INPUT` (D2) and `LENGTH_LIMITER` (D10). The limiter gets the
frequency table, the unlimited lengths and the limit, and is a function of these alone (R131 point 5). -/
structure Params where
  maxInput : Nat
  limiter : List Nat → List Nat → Nat → List Nat

/-- The decided default of `MAX_INPUT`, 10 MiB (R6, D2). -/
def defaultMaxInput : Nat := 10485760

/-- The sufficient size of `BITS` for an input of `n` bytes (R56). -/
def bitsBound (n : Nat) : Nat := 17 + 3 * 19 + 14 * 316 + 15 * n + 15

/-- `OUT_MAX`, the number of bytes of `OUT` (R16, R56: "ceil of that over 8"). -/
def outMax (maxInput : Nat) : Nat := (bitsBound maxInput + 7) / 8

/-! Free values. They have no body: nothing in Lean can say which value they are. -/

/-- The byte that a cell of `IN` holds when the host has not written it since the last reset (R11, R36, U11:
unspecified). Arguments: the reset episode, the index. Log entry 7. -/
opaque unwrittenIn : Nat → Nat → Byte

/-- What a host read of `OUT` returns while DONE=0 or at an index ≥ `OUT_LEN` (R195, U10: any value). Argument: how
many such reads were made before. Log entry 8. -/
opaque unspecifiedOut : Nat → Byte

end Sys2Proof.Config
end

