-- ==== Sys2Proof/Machine/State.lean ====
section
/-! DEFINITION. The state of the block as plain data (R10 to R39), the reasons a step can stop, and the state after
reset (R36, R191). Counts that are the length of a sequence (`NTOK`, `NRLE`, `NBITS`, `SEQ`) are stored once, as that
sequence, and read through `State.ntok` and its like. -/

namespace Sys2Proof.Machine

/-- `PHASE` (R18). Code 15 is reserved and never taken. -/
inductive Phase where
  | idle
  | lz77
  | tally
  | huffLL
  | huffDD
  | sizesRle
  | huffCL
  | writeHdr
  | writeCllen
  | writeRle
  | writeTok
  | writeEob
  | finalize
  | done
  | error
  deriving DecidableEq, Repr

/-- `ERRCODE` (R15, R175). Values 3..255 never occur. -/
inductive ErrCode where
  | none
  | inputTooLarge
  | internal
  deriving DecidableEq, Repr

/-- A token (R60): `Literal(b)` or `Match(length, distance)`. The ranges are a side condition, `Token.wf`. -/
inductive Token where
  | literal (b : Byte)
  | backRef (length distance : Nat)
  deriving DecidableEq, Repr

/-- A node of the tree arena (R22). Its `seq` is its index. A leaf has a symbol, an internal node two children. -/
inductive Node where
  | leaf (weight symbol : Nat)
  | merged (weight left right : Nat)
  deriving DecidableEq, Repr

/-- An RLE tuple (R26, R62): symbol, extra_bits_count, extra_bits_value. -/
structure RleTuple where
  symbol : Nat
  extra : Nat
  value : Nat
  deriving DecidableEq, Repr

/-- What a code table yields (R101, R103): code, extra_bit_count, extra_bit_value. -/
structure Lookup where
  code : Nat
  extra : Nat
  value : Nat
  deriving DecidableEq, Repr

/-- What a search yields when there is a match (R111): `best_len`, `best_dist`. -/
structure Hit where
  len : Nat
  dist : Nat
  deriving DecidableEq, Repr

/-- The five host registers (R12 to R17). -/
inductive HostReg where
  | ctrl
  | status
  | errcode
  | inLen
  | outLen
  deriving DecidableEq, Repr

/-- A transaction of the host (R172, R190). It names an entry of `IN` or `OUT` by its index and a register by its number
(R40). -/
inductive HostOp where
  | writeIn (index : Nat) (value : Byte)
  | writeReg (number : Nat) (value : RegWord)
  | readReg (number : Nat)
  | readOut (index : Nat)
  | reset
  deriving DecidableEq, Repr

/-- One turn of the host's schedule: it makes one transaction, or it lets the engine move (log entry 5). -/
inductive HostTurn where
  | act (op : HostOp)
  | wait
  deriving DecidableEq, Repr

/-- The state. The comments name the rule that gives the machine each piece. -/
structure State where
  /-- `STATUS.BUSY` (R14) -/
  busy : Bool
  /-- `STATUS.DONE` (R14) -/
  done : Bool
  /-- `STATUS.ERR` (R14) -/
  err : Bool
  /-- `STATUS.PHASE` (R14, R18) -/
  phase : Phase
  /-- `ERRCODE` (R15) -/
  errcode : ErrCode
  /-- `IN_LEN` (R12) -/
  inLen : RegWord
  /-- `OUT_LEN` (R17) -/
  outLen : Nat
  /-- `IN` (R11): the cells written since reset, indices rising -/
  inp : List Host.Cell
  /-- `OUT` (R16): the cells written since reset, indices rising -/
  out : List Host.Cell
  /-- `N` (R31) -/
  n : Nat
  /-- `p` (R19) -/
  p : Nat
  /-- `ti` (R28) -/
  ti : Nat
  /-- `ri` (R28) -/
  ri : Nat
  /-- `ci` (R28) -/
  ci : Nat
  /-- `TOK[0..NTOK)` (R20) -/
  tok : List Token
  /-- `LLF` (R21) -/
  llf : List Nat
  /-- `DDF` (R21) -/
  ddf : List Nat
  /-- `CLF` (R21) -/
  clf : List Nat
  /-- `NODE[0..SEQ)` (R22) -/
  node : List Node
  /-- `LIVE` (R22): indices, in rising order -/
  live : List Nat
  /-- `U` (R129): the unlimited lengths -/
  u : List Nat
  /-- `LLLEN` (R23) -/
  lllen : List Nat
  /-- `DDLEN` (R23) -/
  ddlen : List Nat
  /-- `CLLEN` (R23) -/
  cllen : List Nat
  /-- `LLCODE` (R24) -/
  llcode : List Nat
  /-- `DDCODE` (R24) -/
  ddcode : List Nat
  /-- `CLCODE` (R24) -/
  clcode : List Nat
  /-- `HLIT` (R25) -/
  hlit : Nat
  /-- `HDIST` (R25) -/
  hdist : Nat
  /-- `HCLEN` (R25) -/
  hclen : Nat
  /-- `RLE[0..NRLE)` (R26) -/
  rle : List RleTuple
  /-- `BITS[0..NBITS)` (R27), first emitted bit first -/
  bits : List Bit
  /-- the result of LENGTH_LOOKUP (R101) -/
  lenRes : Lookup
  /-- the result of DIST_LOOKUP (R103) -/
  distRes : Lookup
  /-- the result of LZ_SEARCH, none for "no match" (R111) -/
  best : Option Hit
  /-- the model's own: operations issued and not yet done, in order (log entry 3) -/
  opq : List OpWord
  /-- the model's own: what the host will do, in order (log entry 5) -/
  hostQ : List HostTurn
  /-- the model's own: the value the host last read (log entry 5) -/
  hostData : RegWord
  /-- the model's own: how many times the block was reset, argument of `Config.unwrittenIn` (log entry 7) -/
  epoch : Nat
  /-- the model's own: how many unspecified reads of `OUT` were made, argument of `Config.unspecifiedOut` (log entry 8) -/
  fresh : Nat
  deriving DecidableEq, Repr

/-- `NTOK` (R31). -/
abbrev State.ntok (s : State) : Nat := s.tok.length
/-- `NRLE` (R26). -/
abbrev State.nrle (s : State) : Nat := s.rle.length
/-- `NBITS` (R27). -/
abbrev State.nbits (s : State) : Nat := s.bits.length
/-- `SEQ`, the next insertion sequence number (R22). -/
abbrev State.seq (s : State) : Nat := s.node.length

/-- Why the machine stops with a fault. -/
inductive Fault where
  /-- an access to `IN` at an index that does not exist, at or above `MAX_INPUT` (R11, R40, R41); raised by the
  engine's reads of `IN` and by a host write. Safe: the model stops. -/
  | inputAddress
  /-- a write to `OUT` at an index that does not exist, at or above `OUT_MAX` (R16, R42); raised by FINALIZE and PAD.
  Safe: the model stops. -/
  | outputAddress
  deriving DecidableEq, Repr

/-- Why the machine gives no next state. -/
inductive Refusal where
  /-- `exec` has no meaning for the instruction yet. Safe. -/
  | notModelled (mnemonic : String)
  /-- the word at the head of the operation queue is no instruction (R81, R83); raised by the fetch. Safe. -/
  | undecodable (w : OpWord)
  /-- the host writes `IN` or `IN_LEN` while BUSY=1, which the spec puts outside the protocol (R57, R172, R194).
  Safe: the model stops where a realisation does something unspecified. -/
  | hostWriteWhileBusy
  /-- the host names a register number that no register has: 0 to 4 are all there are (R40). Safe: the spec gives such an
  access no effect (log entry 28). -/
  | noSuchRegister (number : Nat)
  deriving DecidableEq, Repr

/-- How an operation ends early. -/
inductive Stop where
  /-- an error was raised: the state after error entry (R179) -/
  | raised (s : State)
  /-- a fault -/
  | fault (f : Fault)
  deriving DecidableEq, Repr

/-- What an operation answers: the state it leaves, or an early end. -/
abbrev Result := Except Stop State

/-- The outcome of an instruction. Error entry is a next state: the spec describes it (R179). -/
def finish : Result → Host.Outcome State Fault Refusal
  | .ok s => .next s
  | .error (.raised s) => .next s
  | .error (.fault f) => .fault f

/-- A lookup result before any lookup (log entry 6). -/
def Lookup.zero : Lookup := ⟨0, 0, 0⟩

/-- The state right after reset (R36, R191). What R36 leaves unspecified: `IN` and `OUT` list nothing; the code
tables are 0 (log entry 6); the sequences are empty, as their counts are 0. -/
def State.reset : State where
  busy := false
  done := false
  err := false
  phase := .idle
  errcode := .none
  inLen := 0
  outLen := 0
  inp := []
  out := []
  n := 0
  p := 0
  ti := 0
  ri := 0
  ci := 0
  tok := []
  llf := List.replicate Config.llSize 0
  ddf := List.replicate Config.ddSize 0
  clf := List.replicate Config.clSize 0
  node := []
  live := []
  u := []
  lllen := List.replicate Config.llSize 0
  ddlen := List.replicate Config.ddSize 0
  cllen := List.replicate Config.clSize 0
  llcode := List.replicate Config.llSize 0
  ddcode := List.replicate Config.ddSize 0
  clcode := List.replicate Config.clSize 0
  hlit := 0
  hdist := 0
  hclen := 0
  rle := []
  bits := []
  lenRes := Lookup.zero
  distRes := Lookup.zero
  best := none
  opq := []
  hostQ := []
  hostData := 0
  epoch := 0
  fresh := 0

end Sys2Proof.Machine
end

