-- ==== Sys2Proof/Machine/Flags.lean ====
section
/-! DEFINITION. The status bits BUSY, DONE and ERR, and the words the host reads (R12 to R17, R30). The block has no
condition codes: these three bits are the only flags. -/

namespace Sys2Proof.Machine

/-- The 4-bit code of a phase (R18). -/
def Phase.code : Phase → Nat
  | .idle => 0
  | .lz77 => 1
  | .tally => 2
  | .huffLL => 3
  | .huffDD => 4
  | .sizesRle => 5
  | .huffCL => 6
  | .writeHdr => 7
  | .writeCllen => 8
  | .writeRle => 9
  | .writeTok => 10
  | .writeEob => 11
  | .finalize => 12
  | .done => 13
  | .error => 14

/-- The 8-bit value of `ERRCODE` (R15, R175). -/
def ErrCode.code : ErrCode → Nat
  | .none => 0
  | .inputTooLarge => 1
  | .internal => 2

/-- Flags of an accepted START: BUSY set, DONE and ERR cleared (R168). -/
def State.flagsStart (s : State) : State := { s with busy := true, done := false, err := false }

/-- Flags of completion: DONE set, BUSY cleared (R169). -/
def State.flagsDone (s : State) : State := { s with busy := false, done := true }

/-- Flags of error entry: ERR set, BUSY cleared, DONE 0 (R179, R180). -/
def State.flagsError (s : State) : State := { s with busy := false, done := false, err := true }

/-- `STATUS` as the host reads it: BUSY bit 0, DONE bit 1, ERR bit 2, PHASE bits 7:4, every other bit 0 (R14). -/
def State.statusWord (s : State) : RegWord :=
  BitVec.ofNat 32 (s.busy.toNat + 2 * s.done.toNat + 4 * s.err.toNat + 16 * s.phase.code)

/-- What a host read of a register returns. `CTRL` reads 0 (R13). `OUT_LEN` reads 0 whenever DONE=0 (R195), also
between FINALIZE and the completion step (log entry 9). -/
def State.readReg (s : State) : HostReg → RegWord
  | .ctrl => 0
  | .status => s.statusWord
  | .errcode => BitVec.ofNat 32 s.errcode.code
  | .inLen => s.inLen
  | .outLen => if s.done then BitVec.ofNat 32 s.outLen else 0

end Sys2Proof.Machine
end

