-- ==== Sys2Proof/Machine/Ops.lean ====
section
/-! DEFINITION. The shared operations over buffers and registers: the cells of `IN` and `OUT`, the appends to `BITS`,
error entry (the block's only exception), completion, the clearing at START, and reset. -/

namespace Sys2Proof.Machine

/-- Runs the second operation in the state the first one leaves; an early end ends both (R179: "no later phase
runs"). -/
def andThen (r : Result) (f : State → Result) : Result :=
  match r with
  | .ok s => f s
  | .error e => .error e

/-! ## Buffers of cells -/

/-- A cell's byte; none if nothing has written it. An unlisted cell has no value (R36). -/
def Memory.read : List Host.Cell → Nat → Option Byte
  | [], _ => none
  | (b, v) :: m, a => if b = a then some v else Memory.read m a

/-- Writes a cell and keeps the indices strictly rising. -/
def Memory.write : List Host.Cell → Nat → Byte → List Host.Cell
  | [], a, v => [(a, v)]
  | (b, w) :: m, a, v =>
    if a < b then (a, v) :: (b, w) :: m
    else if a = b then (a, v) :: m
    else (b, w) :: Memory.write m a v

/-- Every index of the list is above `a`, and the indices rise strictly. -/
def Memory.risesFrom : Nat → List Host.Cell → Bool
  | _, [] => true
  | a, (b, _) :: m => decide (a ≤ b) && Memory.risesFrom (b + 1) m

/-- The canonical form: indices strictly rising. (An unlisted cell has no value, so no entry can equal one.) -/
def Memory.wf (m : List Host.Cell) : Bool := Memory.risesFrom 0 m

/-- `MemRead(IN, a, 1)` (R41). A cell the host has not written since reset holds a byte nobody knows (R36, U11). -/
def State.inByte (s : State) (a : Nat) : Byte :=
  (Memory.read s.inp a).getD (Config.unwrittenIn s.epoch a)

/-- The input `S`, `S[i] = MemRead(IN, i, 1)` for i < N (R11, R41). An index at or above `MAX_INPUT` does not exist. -/
def State.inputSeq (maxInput : Nat) (s : State) : Except Stop (List Byte) :=
  if s.n ≤ maxInput then .ok ((List.range s.n).map s.inByte) else .error (.fault .inputAddress)

/-- `MemWrite(OUT, a, 1, v)` (R42). An index at or above `OUT_MAX` does not exist (R16). -/
def State.memWrite (maxInput : Nat) (s : State) (a : Nat) (v : Byte) : Result :=
  if a < Config.outMax maxInput then .ok { s with out := Memory.write s.out a v }
  else .error (.fault .outputAddress)

/-- Writes bytes to `OUT` at `a`, `a + 1`, … in ascending order, each index once (R42). -/
def writeBytes (maxInput : Nat) : Nat → List Byte → State → Result
  | _, [], s => .ok s
  | a, v :: vs, s => andThen (s.memWrite maxInput a v) (writeBytes maxInput (a + 1) vs)

/-! ## The bitstream -/

/-- Appends bits at the end of `BITS`, in order; the only way anything is added to it (R27, R90, R47). -/
def State.emit (s : State) (bs : List Bit) : State := { s with bits := s.bits ++ bs }

/-! ## Error entry, completion, START, reset -/

/-- Error entry (R179): `ERRCODE` says which error, `OUT_LEN` is 0, ERR is set, BUSY and DONE are 0, `PHASE` is ERROR.
The operation is abandoned: what was issued is dropped. There is no saved pc, mode or cause, and no return (R181);
an accepted START or reset leaves the phase ERROR. -/
def State.errorEntry (s : State) (e : ErrCode) : State :=
  { s.flagsError with errcode := e, outLen := 0, phase := .error, opq := [] }

/-- `raise E(info)` (R179): the operation ends in error entry. -/
def raise (e : ErrCode) (s : State) : Result := .error (.raised (s.errorEntry e))

/-- Completion (R169): DONE, not BUSY, `PHASE` is DONE; nothing is left to do. -/
def State.complete (s : State) : State := { s.flagsDone with phase := .done, opq := [] }

/-- Every piece of pipeline data takes its empty value (R35). `TOK`, `RLE`, `NODE` and `BITS` are emptied with their
counts; the code tables and `OUT` keep what they hold. `PHASE` is 0 until phase 1 starts (R175, R176; log entry 10). -/
def State.clearPipeline (s : State) : State :=
  { s with
    phase := .idle, errcode := .none, outLen := 0
    p := 0, ti := 0, ri := 0, ci := 0
    tok := [], rle := [], bits := [], node := [], live := [], u := []
    llf := List.replicate Config.llSize 0
    ddf := List.replicate Config.ddSize 0
    clf := List.replicate Config.clSize 0
    lllen := List.replicate Config.llSize 0
    ddlen := List.replicate Config.ddSize 0
    cllen := List.replicate Config.clSize 0
    hlit := 0, hdist := 0, hclen := 0
    lenRes := Lookup.zero, distRes := Lookup.zero, best := none
    opq := [] }

/-- An accepted START (R168): the flags, the clearing, and `N` takes `IN_LEN`. COMPRESS follows. -/
def State.start (s : State) : State := { s.flagsStart.clearPipeline with n := s.inLen.toNat }

/-- Reset (R190): every register takes its reset value, a running operation is abandoned, `IN` and `OUT` are
unspecified again. What the host will do and has read is not part of the block. -/
def State.resetEvent (s : State) : State :=
  { State.reset with hostQ := s.hostQ, hostData := s.hostData, epoch := s.epoch + 1, fresh := s.fresh }

end Sys2Proof.Machine
end

