-- ==== Sys2Proof/Machine/CodeTables.lean ====
section
/-! DEFINITION. CodeTables: the two immutable tables (R100, R102, R104) and the operations LENGTH_LOOKUP and
DIST_LOOKUP (R101, R103). -/

namespace Sys2Proof.Machine

/-- A row of a code table: code, extra bits, base, last value covered. -/
structure CodeRow where
  code : Nat
  extra : Nat
  base : Nat
  last : Nat
  deriving DecidableEq, Repr

/-- The length table (R102). -/
def lengthTable : List CodeRow :=
  [⟨257, 0, 3, 3⟩, ⟨258, 0, 4, 4⟩, ⟨259, 0, 5, 5⟩, ⟨260, 0, 6, 6⟩, ⟨261, 0, 7, 7⟩, ⟨262, 0, 8, 8⟩,
   ⟨263, 0, 9, 9⟩, ⟨264, 0, 10, 10⟩, ⟨265, 1, 11, 12⟩, ⟨266, 1, 13, 14⟩, ⟨267, 1, 15, 16⟩,
   ⟨268, 1, 17, 18⟩, ⟨269, 2, 19, 22⟩, ⟨270, 2, 23, 26⟩, ⟨271, 2, 27, 30⟩, ⟨272, 2, 31, 34⟩] ++
  [⟨273, 3, 35, 42⟩, ⟨274, 3, 43, 50⟩, ⟨275, 3, 51, 58⟩, ⟨276, 3, 59, 66⟩, ⟨277, 4, 67, 82⟩,
   ⟨278, 4, 83, 98⟩, ⟨279, 4, 99, 114⟩, ⟨280, 4, 115, 130⟩, ⟨281, 5, 131, 162⟩, ⟨282, 5, 163, 194⟩,
   ⟨283, 5, 195, 226⟩, ⟨284, 5, 227, 257⟩, ⟨285, 0, 258, 258⟩]

/-- The distance table (R104). -/
def distTable : List CodeRow :=
  [⟨0, 0, 1, 1⟩, ⟨1, 0, 2, 2⟩, ⟨2, 0, 3, 3⟩, ⟨3, 0, 4, 4⟩, ⟨4, 1, 5, 6⟩, ⟨5, 1, 7, 8⟩, ⟨6, 2, 9, 12⟩,
   ⟨7, 2, 13, 16⟩, ⟨8, 3, 17, 24⟩, ⟨9, 3, 25, 32⟩, ⟨10, 4, 33, 48⟩, ⟨11, 4, 49, 64⟩, ⟨12, 5, 65, 96⟩,
   ⟨13, 5, 97, 128⟩, ⟨14, 6, 129, 192⟩, ⟨15, 6, 193, 256⟩] ++
  [⟨16, 7, 257, 384⟩, ⟨17, 7, 385, 512⟩, ⟨18, 8, 513, 768⟩, ⟨19, 8, 769, 1024⟩, ⟨20, 9, 1025, 1536⟩,
   ⟨21, 9, 1537, 2048⟩, ⟨22, 10, 2049, 3072⟩, ⟨23, 10, 3073, 4096⟩, ⟨24, 11, 4097, 6144⟩,
   ⟨25, 11, 6145, 8192⟩, ⟨26, 12, 8193, 12288⟩, ⟨27, 12, 12289, 16384⟩, ⟨28, 13, 16385, 24576⟩,
   ⟨29, 13, 24577, 32768⟩]

/-- The row whose range holds `v`, and `v` less its base (R78); none outside the domain. -/
def lookupIn (table : List CodeRow) (v : Nat) : Option Lookup :=
  (table.find? fun r => decide (r.base ≤ v) && decide (v ≤ r.last)).map fun r =>
    ⟨r.code, r.extra, v - r.base⟩

/-- `LENGTH_LOOKUP(ℓ)`, ℓ ∈ 3..258 (R101). -/
def lengthLookup (len : Nat) : Option Lookup := lookupIn lengthTable len

/-- `DIST_LOOKUP(d)`, d ∈ 1..32768 (R103). -/
def distLookup (dist : Nat) : Option Lookup := lookupIn distTable dist

/-- `LENGTH_LOOKUP` as an operation. A value outside 3..258 is no match length: Internal (R82, log entry 11). -/
def opLengthLookup (len : Nat) (s : State) : Result :=
  match lengthLookup len with
  | some r => .ok { s with lenRes := r }
  | none => raise .internal s

/-- `DIST_LOOKUP` as an operation. A value outside 1..32768 is no distance: Internal (R82, log entry 11). -/
def opDistLookup (dist : Nat) (s : State) : Result :=
  match distLookup dist with
  | some r => .ok { s with distRes := r }
  | none => raise .internal s

/-- LENGTH_LOOKUP (R101). -/
def execLengthLookup (len : Nat) (s : State) : Host.Outcome State Fault Refusal := finish (opLengthLookup len s)

/-- DIST_LOOKUP (R103). -/
def execDistLookup (dist : Nat) (s : State) : Host.Outcome State Fault Refusal := finish (opDistLookup dist s)

end Sys2Proof.Machine
end

