-- ==== Sys2Proof/Machine/Operands.lean ====
section
/-! DEFINITION. The operand forms: an alphabet and its register files (R21, R23, R24, R135), tokens and their packed
word (R60, R61), RLE tuples (R62), `CL_ORDER` (R5), and the code book a reader of the stream uses. -/

namespace Sys2Proof

/-- The number of symbols of an alphabet (R5, R135). -/
def Alphabet.size : Alphabet → Nat
  | .ll => Config.llSize
  | .dd => Config.ddSize
  | .cl => Config.clSize

/-- The longest code of an alphabet (R5, R135). -/
def Alphabet.maxLen : Alphabet → Nat
  | .ll => Config.maxLenLLDD
  | .dd => Config.maxLenLLDD
  | .cl => Config.maxLenCL

namespace Machine

/-- `LLF`, `DDF` or `CLF` (R21). -/
def State.freq (s : State) : Alphabet → List Nat
  | .ll => s.llf
  | .dd => s.ddf
  | .cl => s.clf

/-- `LLLEN`, `DDLEN` or `CLLEN` (R23). -/
def State.lens (s : State) : Alphabet → List Nat
  | .ll => s.lllen
  | .dd => s.ddlen
  | .cl => s.cllen

/-- `LLCODE`, `DDCODE` or `CLCODE` (R24). -/
def State.codes (s : State) : Alphabet → List Nat
  | .ll => s.llcode
  | .dd => s.ddcode
  | .cl => s.clcode

/-- Writes a code-length vector. -/
def State.setLens (s : State) (a : Alphabet) (v : List Nat) : State :=
  match a with
  | .ll => { s with lllen := v }
  | .dd => { s with ddlen := v }
  | .cl => { s with cllen := v }

/-- Writes a code table. -/
def State.setCodes (s : State) (a : Alphabet) (v : List Nat) : State :=
  match a with
  | .ll => { s with llcode := v }
  | .dd => { s with ddcode := v }
  | .cl => { s with clcode := v }

/-- The code tables as a reader of the stream needs them. -/
def State.codeBook (s : State) : CodeBook := ⟨s.lllen, s.llcode, s.ddlen, s.ddcode, s.cllen, s.clcode⟩

/-- Entries 0..size−1 of a vector; an entry it does not have is 0. -/
def fit (size : Nat) (v : List Nat) : List Nat := (v ++ List.replicate size 0).take size

/-- `T[i] <- T[i] + 1`. -/
def bump (t : List Nat) (i : Nat) : List Nat := t.set i (t.getD i 0 + 1)

/-- The permuted order of the meta code lengths (R5, R66). -/
def clOrder : List Nat := [16, 17, 18, 0, 8, 7, 9, 6, 10, 5, 11, 4, 12, 3, 13, 2, 14, 1, 15]

/-- The ranges of a token (R60). -/
def Token.wf : Token → Bool
  | .literal _ => true
  | .backRef length distance =>
    decide (3 ≤ length) && decide (length ≤ 258) && decide (1 ≤ distance) && decide (distance ≤ 32768)

/-- The packed token word, the storage form of `TOK` (R61): bit 23 tells a match, bits 22:15 `length − 3`, bits 14:0
`distance − 1` or the byte. Not observable. -/
def Token.pack : Token → BitVec 24
  | .literal b => BitVec.ofNat 24 b.toNat
  | .backRef length distance => BitVec.ofNat 24 (2 ^ 23 + (length - 3) * 2 ^ 15 + (distance - 1))

/-- The token of a packed word (R61). -/
def Token.unpack (w : BitVec 24) : Token :=
  if w.toNat < 2 ^ 23 then .literal (BitVec.ofNat 8 w.toNat)
  else .backRef (w.toNat / 2 ^ 15 % 256 + 3) (w.toNat % 2 ^ 15 + 1)

/-- The extra-bit count of a meta symbol (R62): it is a function of the symbol. -/
def metaExtra (symbol : Nat) : Nat :=
  if symbol = 16 then 2 else if symbol = 17 then 3 else if symbol = 18 then 7 else 0

/-- The legal tuples (R62). -/
def RleTuple.wf (t : RleTuple) : Bool :=
  decide (t.symbol < 19) && decide (t.extra = metaExtra t.symbol) && decide (t.value < 2 ^ t.extra)

end Machine

end Sys2Proof
end

