-- ==== Sys2Proof/Machine/BitWriter.lean ====
section
/-! DEFINITION. BitWriter (R90 to R97): APPEND_BIT, APPEND_BITS_LSB, APPEND_BITS_MSB, FINALIZE, and the padding
element that FINALIZE produces (R77). -/

namespace Sys2Proof.Machine

/-- APPEND_BIT (R91). -/
def opAppendBit (b : Bit) (s : State) : Result := .ok (s.emit [b])

/-- APPEND_BITS_LSB (R92). -/
def opAppendBitsLsb (value n : Nat) (s : State) : Result := .ok (s.emit (lsbBits value n))

/-- APPEND_BITS_MSB (R93). -/
def opAppendBitsMsb (value n : Nat) (s : State) : Result := .ok (s.emit (msbBits value n))

/-- FINALIZE (R94): the bits as bytes go to `OUT`, the last byte zero-padded; `OUT_LEN` is their number. `BITS` and the
flags stay. -/
def opFinalize (maxInput : Nat) (s : State) : Result :=
  andThen (writeBytes maxInput 0 (bitsToBytes s.bits) s) fun t =>
    .ok { t with outLen := (bitsToBytes s.bits).length }

/-- The padding element (R77): the zero bits that complete the last byte exist only in `OUT` (R94), so emitting them
is writing the last, partial byte; nothing when NBITS is a multiple of 8 (log entry 12). -/
def opPad (maxInput : Nat) (s : State) : Result :=
  if s.bits.length % 8 = 0 then .ok s
  else s.memWrite maxInput (s.bits.length / 8) (packByte (s.bits.drop (8 * (s.bits.length / 8))))

def execAppendBit (b : Bit) (s : State) : Host.Outcome State Fault Refusal := finish (opAppendBit b s)

def execAppendBitsLsb (value n : Nat) (s : State) : Host.Outcome State Fault Refusal :=
  finish (opAppendBitsLsb value n s)

def execAppendBitsMsb (value n : Nat) (s : State) : Host.Outcome State Fault Refusal :=
  finish (opAppendBitsMsb value n s)

def execFinalize (s : State) : Host.Outcome State Fault Refusal := finish (opFinalize Config.defaultMaxInput s)

end Sys2Proof.Machine
end

