-- ==== Sys2Proof/Machine/BlockWriter.lean ====
section
/-! DEFINITION. BlockWriter (R150 to R164): the header sizes and the sections of the block. Every bit goes through
`State.emit` in the order its rule names. -/

namespace Sys2Proof.Machine

/-! ## Sizes -/

/-- 1 + the index of the last non-zero entry; 0 if there is none. -/
def usedLength : List Nat → Nat
  | [] => 0
  | x :: xs =>
    match usedLength xs with
    | 0 => if x = 0 then 0 else 1
    | k + 1 => k + 2

/-- SIZE_HLIT (R150). -/
def opSizeHlit (s : State) : Result := .ok { s with hlit := max 257 (usedLength s.lllen) }

/-- SIZE_HDIST (R151). -/
def opSizeHdist (s : State) : Result := .ok { s with hdist := max 1 (usedLength s.ddlen) }

/-- SIZE_HCLEN (R152): the index is a position in `CL_ORDER`. -/
def opSizeHclen (s : State) : Result :=
  .ok { s with hclen := max 4 (usedLength (clOrder.map fun c => s.cllen.getD c 0)) }

/-! ## Symbols -/

/-- A symbol's Huffman code, MSB-first; a symbol without a code raises Internal and emits nothing (R164, R178 b).
The rules make the test and let a realisation omit it; the model makes it (log entry 30). -/
def writeSymbol (a : Alphabet) (symbol : Nat) (s : State) : Result :=
  if (s.lens a).getD symbol 0 = 0 then raise .internal s
  else opAppendBitsMsb ((s.codes a).getD symbol 0) ((s.lens a).getD symbol 0) s

/-- A symbol's code followed by its extra bits, LSB-first (R67, R73, R74, R78). -/
def writeCoded (a : Alphabet) (symbol value extra : Nat) (s : State) : Result :=
  andThen (writeSymbol a symbol s) (opAppendBitsLsb value extra)

/-! ## Sections -/

/-- The ranges of the header registers (R25, R37, R65). -/
def State.headerInRange (s : State) : Bool :=
  decide (257 ≤ s.hlit) && decide (s.hlit ≤ 286) && decide (1 ≤ s.hdist) && decide (s.hdist ≤ 30) &&
    decide (4 ≤ s.hclen) && decide (s.hclen ≤ 19)

/-- WRITE_HEADER (R153 to R156). Registers outside their ranges have no field value: Internal (R178, log entry 11). -/
def opWriteHeader (s : State) : Result :=
  if s.headerInRange then
    andThen (opAppendBit true s) fun s1 =>
    andThen (opAppendBitsLsb 2 2 s1) fun s2 =>
    andThen (opAppendBitsLsb (s.hlit - 257) 5 s2) fun s3 =>
    andThen (opAppendBitsLsb (s.hdist - 1) 5 s3) (opAppendBitsLsb (s.hclen - 4) 4)
  else raise .internal s

/-- One meta code length per symbol, the cursor `ci` stepping by 1 (R157, R28). -/
def cllensLoop : List Nat → State → Result
  | [], s => .ok s
  | c :: cs, s =>
    andThen (opAppendBitsLsb (s.cllen.getD c 0) 3 s) fun s' => cllensLoop cs { s' with ci := s'.ci + 1 }

/-- WRITE_CLLENS (R157): the first HCLEN symbols of `CL_ORDER`. -/
def opWriteCllens (s : State) : Result := cllensLoop (clOrder.take s.hclen) { s with ci := 0 }

/-- One tuple of the code-length section (R158). A tuple outside R62 raises Internal (R82, R178, log entry 11). -/
def writeTuple (t : RleTuple) (s : State) : Result :=
  if t.wf then writeCoded .cl t.symbol t.value t.extra s else raise .internal s

/-- "for ri in [0, NRLE)" (R158, R28). -/
def writeRleLoop : List RleTuple → State → Result
  | [], s => .ok s
  | t :: ts, s => andThen (writeTuple t s) fun s' => writeRleLoop ts { s' with ri := s'.ri + 1 }

/-- WRITE_RLE (R158). The optional test NRLE > 316 of R178 is not made (log entry 11). -/
def opWriteRle (s : State) : Result := writeRleLoop s.rle { s with ri := 0 }

/-- WRITE_LITERAL (R159). -/
def opWriteLiteral (b : Byte) (s : State) : Result := writeSymbol .ll b.toNat s

/-- WRITE_MATCH (R160). A pair outside the ranges of R60 is no match: Internal (R82, log entry 11). -/
def opWriteMatch (length distance : Nat) (s : State) : Result :=
  match lengthLookup length, distLookup distance with
  | some c, some e =>
    andThen (writeCoded .ll c.code c.value c.extra s) (writeCoded .dd e.code e.value e.extra)
  | _, _ => raise .internal s

/-- One token of the token section (R161). -/
def writeToken (t : Token) (s : State) : Result :=
  match t with
  | .literal b => opWriteLiteral b s
  | .backRef length distance => opWriteMatch length distance s

/-- "for ti in [0, NTOK)" (R161, R28). -/
def writeTokensLoop : List Token → State → Result
  | [], s => .ok s
  | t :: ts, s => andThen (writeToken t s) fun s' => writeTokensLoop ts { s' with ti := s'.ti + 1 }

/-- WRITE_TOKENS (R161). -/
def opWriteTokens (s : State) : Result := writeTokensLoop s.tok { s with ti := 0 }

/-- WRITE_EOB (R162). -/
def opWriteEob (s : State) : Result := writeSymbol .ll Config.eobSymbol s

def execSizeHlit (s : State) : Host.Outcome State Fault Refusal := finish (opSizeHlit s)

def execSizeHdist (s : State) : Host.Outcome State Fault Refusal := finish (opSizeHdist s)

def execSizeHclen (s : State) : Host.Outcome State Fault Refusal := finish (opSizeHclen s)

def execWriteHeader (s : State) : Host.Outcome State Fault Refusal := finish (opWriteHeader s)

def execWriteCllens (s : State) : Host.Outcome State Fault Refusal := finish (opWriteCllens s)

def execWriteRle (s : State) : Host.Outcome State Fault Refusal := finish (opWriteRle s)

def execWriteLiteral (b : Byte) (s : State) : Host.Outcome State Fault Refusal := finish (opWriteLiteral b s)

def execWriteMatch (length distance : Nat) (s : State) : Host.Outcome State Fault Refusal :=
  finish (opWriteMatch length distance s)

def execWriteTokens (s : State) : Host.Outcome State Fault Refusal := finish (opWriteTokens s)

def execWriteEob (s : State) : Host.Outcome State Fault Refusal := finish (opWriteEob s)

end Sys2Proof.Machine
end

