-- ==== Sys2Proof/Machine/ClRle.lean ====
section
/-! DEFINITION. CodeLengthRLE (R140 to R149): CL_RLE and CL_TALLY. -/

namespace Sys2Proof.Machine

/-- The largest k with the first k entries all equal to `v` (R144). -/
def leadRun (v : Nat) (V : List Nat) : Nat := (V.takeWhile fun x => x == v).length

/-- The tuples of a run of zeros (R142): symbol 18 while 11 or more are left, then symbol 17, or zeros one by one. -/
def zeroTuples : Nat → Nat → List RleTuple
  | 0, _ => []
  | k + 1, run =>
    if 11 ≤ run then ⟨18, 7, min run 138 - 11⟩ :: zeroTuples k (run - min run 138)
    else if 3 ≤ run then [⟨17, 3, run - 3⟩]
    else List.replicate run ⟨0, 0, 0⟩

/-- The tuples of `r` repeats of `v` (R143): symbol 16 while 3 or more are left, 6 at a time, then plain literals. -/
def repeatTuples (v : Nat) : Nat → Nat → List RleTuple
  | 0, _ => []
  | k + 1, r =>
    if 3 ≤ r then ⟨16, 2, min r 6 - 3⟩ :: repeatTuples v k (r - min r 6)
    else List.replicate r ⟨v, 0, 0⟩

/-- The loop of R144 on the rest of the vector, at most `k` rounds. -/
def rleLoop : Nat → List Nat → List RleTuple
  | 0, _ => []
  | _, [] => []
  | k + 1, v :: vs =>
    if v = 0 then
      zeroTuples (leadRun 0 vs + 1) (leadRun 0 vs + 1) ++ rleLoop k (vs.drop (leadRun 0 vs))
    else
      ⟨v, 0, 0⟩ :: (repeatTuples v (leadRun v vs) (leadRun v vs) ++ rleLoop k (vs.drop (leadRun v vs)))

/-- The RLE of a vector (R144); every round consumes at least one entry. -/
def rleEncode (V : List Nat) : List RleTuple := rleLoop V.length V

/-- `V = LLLEN[0..HLIT) ++ DDLEN[0..HDIST)` (R140, R146). -/
def State.lengthVector (s : State) : List Nat := s.lllen.take s.hlit ++ s.ddlen.take s.hdist

/-- CL_RLE (R144). -/
def opClRle (s : State) : Result := .ok { s with rle := rleEncode s.lengthVector }

/-- Counts one tuple (R148). A tuple outside R62 raises Internal (R82, R178, log entry 11). -/
def clTallyTuple (t : RleTuple) (s : State) : Result :=
  if t.wf then .ok { s with clf := bump s.clf t.symbol } else raise .internal s

/-- "for ri in [0, NRLE)" (R148, R28). -/
def clTallyLoop : List RleTuple → State → Result
  | [], s => .ok s
  | t :: ts, s => andThen (clTallyTuple t s) fun s' => clTallyLoop ts { s' with ri := s'.ri + 1 }

/-- CL_TALLY (R148). The optional test NRLE > 316 of R178 is not made (log entry 11). -/
def opClTally (s : State) : Result := clTallyLoop s.rle { s with ri := 0 }

def execClRle (s : State) : Host.Outcome State Fault Refusal := finish (opClRle s)

def execClTally (s : State) : Host.Outcome State Fault Refusal := finish (opClTally s)

end Sys2Proof.Machine
end

