-- ==== Sys2Proof/Machine/Huffman.lean ====
section
/-! DEFINITION. HuffmanBuilder (R125 to R139): leaves, merging, extraction, the length limit, canonical codes, and
their composition for the three instances of R135. -/

namespace Sys2Proof.Machine

/-! ## Tree construction -/

/-- The weight of a node (R22). -/
def Node.weight : Node → Nat
  | .leaf w _ => w
  | .merged w _ _ => w

/-- The mapping: the pairs (frequency, symbol) with a positive frequency, symbols ascending (R21, R126). -/
def usedEntries (F : List Nat) : List (Nat × Nat) := F.zipIdx.filter fun e => decide (0 < e.1)

/-- The dummy symbol: the smallest with frequency 0 (R127 b). -/
def dummySymbol (F : List Nat) : Option Nat := F.findIdx? fun x => x == 0

/-- The pairs (weight, symbol) that get a leaf, symbols ascending: the mapping, and the dummy with weight 0 if the
mapping has fewer than two symbols (R126, R127). -/
def leafEntries (F : List Nat) : List (Nat × Nat) :=
  if (usedEntries F).length < 2 then
    F.zipIdx.filter fun e => decide (0 < e.1) || dummySymbol F == some e.2
  else usedEntries F

/-- The leaves in insertion order (R126, R127 a). -/
def leaves (F : List Nat) : List Node := (leafEntries F).map fun e => .leaf e.1 e.2

/-- The weight of the node at an index. -/
def weightAt (nodes : List Node) (i : Nat) : Nat := (nodes[i]?.map Node.weight).getD 0

/-- The pair (weight, seq) of `i` is below that of `j`, lexicographically (R128). -/
def lighter (nodes : List Node) (i j : Nat) : Bool :=
  decide (weightAt nodes i < weightAt nodes j) || (weightAt nodes i == weightAt nodes j && decide (i < j))

/-- The live node with the smallest (weight, seq) (R128). -/
def pickMin (nodes : List Node) : List Nat → Option Nat
  | [] => none
  | i :: is =>
    match pickMin nodes is with
    | none => some i
    | some j => if lighter nodes j i then some j else some i

/-- One merge: the two smallest nodes, the first one on the left (R128). -/
def mergeStep (nodes : List Node) (live : List Nat) : Option (List Node × List Nat) :=
  match pickMin nodes live with
  | none => none
  | some a =>
    match pickMin nodes (live.erase a) with
    | none => none
    | some b =>
      some (nodes ++ [.merged (weightAt nodes a + weightAt nodes b) a b],
        (live.erase a).erase b ++ [nodes.length])

/-- "while |LIVE| > 1", at most `k` times. -/
def mergeLoop : Nat → List Node → List Nat → List Node × List Nat
  | 0, nodes, live => (nodes, live)
  | k + 1, nodes, live =>
    if live.length ≤ 1 then (nodes, live)
    else
      match mergeStep nodes live with
      | some (nodes', live') => mergeLoop k nodes' live'
      | none => (nodes, live)

/-! ## Code lengths -/

/-- Writes each leaf's depth below node `i`, which stands at depth `d` (R129); `k` bounds the depth, which matters only
for an arena that is no tree (log entry 29). -/
def walk (nodes : List Node) : Nat → Nat → Nat → List Nat → List Nat
  | 0, _, _, u => u
  | k + 1, i, d, u =>
    match nodes[i]? with
    | none => u
    | some (.leaf _ s) => u.set s d
    | some (.merged _ l r) => walk nodes k r (d + 1) (walk nodes k l (d + 1) u)

/-- The unlimited lengths of the tree with this root (R129); a root that is a leaf has length 1 (R130). -/
def extract (nodes : List Node) (root size : Nat) : List Nat :=
  match nodes[root]? with
  | some (.leaf _ s) => (List.replicate size 0).set s 1
  | _ => walk nodes nodes.length root 0 (List.replicate size 0)

/-! ## The default length limiter (R132) -/

/-- Puts a symbol before the first one that is not before it in the order (U ascending, symbol ascending). -/
def insertByLength (U : List Nat) (s : Nat) : List Nat → List Nat
  | [] => [s]
  | t :: ts =>
    if U.getD s 0 < U.getD t 0 ∨ (U.getD s 0 = U.getD t 0 ∧ s ≤ t) then s :: t :: ts
    else t :: insertByLength U s ts

/-- `order`: the symbols with a length, sorted by (U[s], s). -/
def limitOrder (U : List Nat) : List Nat := ((usedEntries U).map Prod.snd).foldr (insertByLength U) []

/-- `cnt[0..M]` (entry 0 unused): too-long codes are folded into M. -/
def foldedCounts (U : List Nat) (M : Nat) : List Nat :=
  (List.range (M + 1)).map fun l =>
    if l = M then U.countP (fun x => decide (M ≤ x)) else if l = 0 then 0 else U.count l

/-- The Kraft sum scaled by 2^M: Σ_{ℓ=1..M} cnt[ℓ] × 2^(M−ℓ). -/
def kraftScaled (cnt : List Nat) (M : Nat) : Nat :=
  ((List.range M).map fun k => cnt.getD (k + 1) 0 * 2 ^ (M - (k + 1))).sum

/-- The largest ℓ in [1, M−1] with cnt[ℓ] > 0. -/
def longestShorter (cnt : List Nat) (M : Nat) : Option Nat :=
  ((List.range (M - 1)).reverse.map (· + 1)).find? fun l => decide (0 < cnt.getD l 0)

/-- One pass of the loop: `cnt[M]` loses one, a code of the longest shorter length becomes two of the next length. For
lengths that are a tree's depths, `cnt[M]` is positive and a shorter length exists (R132). For others, which the spec
leaves open, the model takes 0 for `0 − 1` and lengthens nothing where there is no shorter length (DESIGN CHOICE, log
entry 29). -/
def limitPass (M : Nat) (cnt : List Nat) : List Nat :=
  let c := cnt.set M (cnt.getD M 0 - 1)
  match longestShorter c M with
  | none => c
  | some l =>
    let c1 := c.set l (c.getD l 0 - 1)
    c1.set (l + 1) (c1.getD (l + 1) 0 + 2)

/-- "while K > 2^M": K falls by exactly 1 a pass, so there are K − 2^M passes. -/
def limitPasses (M : Nat) : Nat → List Nat → List Nat
  | 0, cnt => cnt
  | k + 1, cnt => limitPasses M k (limitPass M cnt)

/-- The lengths in the order they are dealt: ℓ repeated cnt[ℓ] times, ℓ = 1..M. -/
def dealtLengths (cnt : List Nat) (M : Nat) : List Nat :=
  (List.range M).flatMap fun k => List.replicate (cnt.getD (k + 1) 0) (k + 1)

/-- The default limiter: the identity when nothing is too long (R131 point 1), else the repair of R132. -/
def defaultLimiter (U : List Nat) (M : Nat) : List Nat :=
  if U.all (fun l => decide (l ≤ M)) then U
  else
    let cnt := foldedCounts U M
    let fixed := limitPasses M (kraftScaled cnt M - 2 ^ M) cnt
    ((limitOrder U).zip (dealtLengths fixed M)).foldl (fun L x => L.set x.1 x.2) (List.replicate U.length 0)

/-! ## Canonical codes (R133) -/

/-- `next_code[ℓ]`: 0 at ℓ = 1, then (next_code[ℓ−1] + bl_count[ℓ−1]) × 2 (R133, conflict C5). -/
def nextCode (L : List Nat) : Nat → Nat
  | 0 => 0
  | 1 => 0
  | l + 2 => (nextCode L (l + 1) + L.count (l + 1)) * 2

/-- The symbols in ascending order: each with a length takes its length's next code; one without keeps what it has. -/
def assignCodes : List Nat → List Nat → List Nat → List Nat
  | l :: ls, c :: cs, next =>
    if l = 0 then c :: assignCodes ls cs next
    else next.getD l 0 :: assignCodes ls cs (next.set l (next.getD l 0 + 1))
  | _, _, _ => []

/-- `HUFF_CANON(L, maxlen)` over the code table's present contents (R133). -/
def canonCodes (L : List Nat) (maxLen : Nat) (old : List Nat) : List Nat :=
  assignCodes L (fit L.length old) ((List.range (maxLen + 1)).map (nextCode L))

/-! ## The operations -/

/-- The machine's parameters: the decided defaults (R6; log entries 1 and 2). The default limiter does not look at the
frequencies (R132). -/
def params : Config.Params := ⟨Config.defaultMaxInput, fun _ => defaultLimiter⟩

/-- HUFF_LEAVES (R126). -/
def opHuffLeaves (a : Alphabet) (s : State) : Result :=
  .ok { s with node := leaves (s.freq a), live := List.range (leaves (s.freq a)).length }

/-- HUFF_MERGE (R128). -/
def opHuffMerge (s : State) : Result :=
  match mergeLoop s.live.length s.node s.live with
  | (node, live) => .ok { s with node := node, live := live }

/-- HUFF_EXTRACT (R129, R130). The root is the one element of `LIVE` (R128); if there is not exactly one, there is no
tree: Internal (log entry 11). -/
def opHuffExtract (a : Alphabet) (s : State) : Result :=
  match s.live with
  | [root] => .ok { s with u := extract s.node root a.size }
  | _ => raise .internal s

/-- HUFF_LIMIT (R131) with a limiter, which may look at the frequencies (R131 point 5). -/
def opHuffLimit (limiter : List Nat → List Nat → Nat → List Nat) (a : Alphabet) (s : State) : Result :=
  .ok (s.setLens a (fit a.size (limiter (s.freq a) (fit a.size s.u) a.maxLen)))

/-- The check after limiting (R139, R178 a). -/
def checkLimit (a : Alphabet) (s : State) : Result :=
  if (s.lens a).all (fun l => decide (l ≤ a.maxLen)) then .ok s else raise .internal s

/-- HUFF_CANON (R133). -/
def opHuffCanon (a : Alphabet) (s : State) : Result :=
  .ok (s.setCodes a (canonCodes (s.lens a) a.maxLen (s.codes a)))

/-- HUFF_BUILD (R125, R135) with a limiter. -/
def opHuffBuild (limiter : List Nat → List Nat → Nat → List Nat) (a : Alphabet) (s : State) : Result :=
  andThen (opHuffLeaves a s) fun s1 =>
  andThen (opHuffMerge s1) fun s2 =>
  andThen (opHuffExtract a s2) fun s3 =>
  andThen (opHuffLimit limiter a s3) fun s4 =>
  andThen (checkLimit a s4) (opHuffCanon a)

def execHuffLeaves (a : Alphabet) (s : State) : Host.Outcome State Fault Refusal := finish (opHuffLeaves a s)

def execHuffMerge (s : State) : Host.Outcome State Fault Refusal := finish (opHuffMerge s)

def execHuffExtract (a : Alphabet) (s : State) : Host.Outcome State Fault Refusal := finish (opHuffExtract a s)

def execHuffLimit (a : Alphabet) (s : State) : Host.Outcome State Fault Refusal :=
  finish (opHuffLimit params.limiter a s)

def execHuffCanon (a : Alphabet) (s : State) : Host.Outcome State Fault Refusal := finish (opHuffCanon a s)

def execHuffBuild (a : Alphabet) (s : State) : Host.Outcome State Fault Refusal :=
  finish (opHuffBuild params.limiter a s)

end Sys2Proof.Machine
end

