-- ==== Sys2Proof/Machine/Lz77.lean ====
section
/-! DEFINITION. The LZ77 matcher (R110 to R119): LZ_SEARCH, LZ_STEP, LZ77. The search is the exhaustive reference form
of R111; an accelerator may not change its result (R117). -/

namespace Sys2Proof.Machine

/-- How many leading bytes two sequences share, at most `maxl`. -/
def matchLen : Nat → List Byte → List Byte → Nat
  | 0, _, _ => 0
  | _, [], _ => 0
  | _, _, [] => 0
  | k + 1, x :: xs, y :: ys => if x = y then matchLen k xs ys + 1 else 0

/-- `mlen(start, p, maxl)` (R112): the compared bytes may lie at or beyond `p`. -/
def mlen (S : List Byte) (start p maxl : Nat) : Nat := matchLen maxl (S.drop start) (S.drop p)

/-- The starts of the region [max(0, p − 32768), p), nearest first (R111). -/
def starts (p : Nat) : List Nat := (List.range (min p Config.windowSize)).map fun k => p - 1 - k

/-- One candidate: kept only if strictly longer, which keeps the nearest on a tie (R111, R113). -/
def tryStart (S : List Byte) (p maxl : Nat) (best : Hit) (start : Nat) : Hit :=
  if best.len < mlen S start p maxl then ⟨mlen S start p maxl, p - start⟩ else best

/-- `LZ_SEARCH(p)` on the input `S` (R111). -/
def lzSearch (S : List Byte) (p : Nat) : Option Hit :=
  let maxl := min Config.maxMatch (S.length - p)
  if maxl < Config.minMatch then none
  else
    let best := (starts p).foldl (tryStart S p maxl) ⟨0, 0⟩
    if Config.minMatch ≤ best.len then some best else none

/-- One LZ_STEP on the input `S` (R114). Its operand condition is p < N; otherwise Internal (log entry 11). -/
def lzStepOn (S : List Byte) (s : State) : Result :=
  match S[s.p]? with
  | none => raise .internal s
  | some b =>
    match lzSearch S s.p with
    | some h => .ok { s with tok := s.tok ++ [.backRef h.len h.dist], p := s.p + h.len }
    | none => .ok { s with tok := s.tok ++ [.literal b], p := s.p + 1 }

/-- "while p < N: LZ_STEP()", at most `k` times; N times are enough, as p rises by at least 1 (R116). -/
def lz77Loop (S : List Byte) : Nat → State → Result
  | 0, s => .ok s
  | k + 1, s => if s.p < S.length then andThen (lzStepOn S s) (lz77Loop S k) else .ok s

/-- LZ_SEARCH at the register `p` (R111). -/
def opLzSearch (maxInput : Nat) (s : State) : Result :=
  match s.inputSeq maxInput with
  | .ok S => .ok { s with best := lzSearch S s.p }
  | .error e => .error e

/-- LZ_STEP (R114). -/
def opLzStep (maxInput : Nat) (s : State) : Result :=
  match s.inputSeq maxInput with
  | .ok S => lzStepOn S s
  | .error e => .error e

/-- LZ77 (R110). -/
def opLz77 (maxInput : Nat) (s : State) : Result :=
  match s.inputSeq maxInput with
  | .ok S => lz77Loop S s.n { s with p := 0, tok := [] }
  | .error e => .error e

def execLzSearch (s : State) : Host.Outcome State Fault Refusal := finish (opLzSearch Config.defaultMaxInput s)

def execLzStep (s : State) : Host.Outcome State Fault Refusal := finish (opLzStep Config.defaultMaxInput s)

def execLz77 (s : State) : Host.Outcome State Fault Refusal := finish (opLz77 Config.defaultMaxInput s)

end Sys2Proof.Machine
end

