-- ==== Sys2Proof/Machine/Tally.lean ====
section
/-! DEFINITION. FrequencyTally (R120 to R123): TALLY. -/

namespace Sys2Proof.Machine

/-- Counts one token (R121, R122). A token outside the ranges of R60 raises Internal (R82, R178, log entry 11). -/
def tallyToken (t : Token) (s : State) : Result :=
  match t with
  | .literal b => .ok { s with llf := bump s.llf b.toNat }
  | .backRef length distance =>
    match lengthLookup length, distLookup distance with
    | some c, some e => .ok { s with llf := bump s.llf c.code, ddf := bump s.ddf e.code }
    | _, _ => raise .internal s

/-- "for ti in [0, NTOK)": each token in order, the cursor `ti` stepping by 1 (R28). -/
def tallyLoop : List Token → State → Result
  | [], s => .ok s
  | t :: ts, s => andThen (tallyToken t s) fun s' => tallyLoop ts { s' with ti := s'.ti + 1 }

/-- TALLY (R120): the tokens, then symbol 256 once. -/
def opTally (s : State) : Result :=
  andThen (tallyLoop s.tok { s with ti := 0 }) fun t => .ok { t with llf := bump t.llf Config.eobSymbol }

def execTally (s : State) : Host.Outcome State Fault Refusal := finish (opTally s)

end Sys2Proof.Machine
end

