-- ==== Sys2Proof/Machine/Compress.lean ====
section
/-! DEFINITION. COMPRESS (R167): the size check and the twelve phases in order, as one operation. The sequencer runs
the same phases one operation a step (Machine/Sequencer.lean). -/

namespace Sys2Proof.Machine

/-- The size check (R176): N > `MAX_INPUT` raises InputTooLarge, before any phase and any read of `IN`. -/
def sizeCheck (maxInput : Nat) (s : State) : Result :=
  if maxInput < s.n then raise .inputTooLarge s else .ok s

/-- `PHASE <- ph`, the block's only control transfer (R166). -/
def setPhase (ph : Phase) (s : State) : Result := .ok { s with phase := ph }

/-- Phases 1 to 6: from the input to the code tables (R167). -/
def codingPhases (P : Config.Params) (s : State) : Result :=
  andThen (setPhase .lz77 s) fun s =>
  andThen (opLz77 P.maxInput s) fun s =>
  andThen (setPhase .tally s) fun s =>
  andThen (opTally s) fun s =>
  andThen (setPhase .huffLL s) fun s =>
  andThen (opHuffBuild P.limiter .ll s) fun s =>
  andThen (setPhase .huffDD s) fun s =>
  andThen (opHuffBuild P.limiter .dd s) fun s =>
  andThen (setPhase .sizesRle s) fun s =>
  andThen (opSizeHlit s) fun s =>
  andThen (opSizeHdist s) fun s =>
  andThen (opClRle s) fun s =>
  andThen (setPhase .huffCL s) fun s =>
  andThen (opClTally s) fun s =>
  andThen (opHuffBuild P.limiter .cl s) opSizeHclen

/-- Phases 7 to 12: the block and its bytes (R167). -/
def writingPhases (P : Config.Params) (s : State) : Result :=
  andThen (setPhase .writeHdr s) fun s =>
  andThen (opWriteHeader s) fun s =>
  andThen (setPhase .writeCllen s) fun s =>
  andThen (opWriteCllens s) fun s =>
  andThen (setPhase .writeRle s) fun s =>
  andThen (opWriteRle s) fun s =>
  andThen (setPhase .writeTok s) fun s =>
  andThen (opWriteTokens s) fun s =>
  andThen (setPhase .writeEob s) fun s =>
  andThen (opWriteEob s) fun s =>
  andThen (setPhase .finalize s) fun s =>
  opFinalize P.maxInput s

/-- COMPRESS (R167) with given parameters, ending in completion (R169). -/
def opCompress (P : Config.Params) (s : State) : Result :=
  andThen (sizeCheck P.maxInput s) fun s =>
  andThen (codingPhases P s) fun s =>
  andThen (writingPhases P s) fun s => .ok s.complete

def execCompress (s : State) : Host.Outcome State Fault Refusal := finish (opCompress params s)

end Sys2Proof.Machine
end

