-- ==== Sys2Proof/Machine/Elements.lean ====
section
/-! DEFINITION. The elements of the output bitstream as instructions (R65 to R77): each appends the bits its row of
the table shows, through the BitWriter operation its rule names. A field value that R65 or R81 excludes raises
Internal and emits nothing (R82, log entry 11). -/

namespace Sys2Proof.Machine

/-- A fixed-width LSB-first field whose value is at most `top` (R65, R66). -/
def writeField (value width top : Nat) (s : State) : Result :=
  if value ≤ top then opAppendBitsLsb value width s else raise .internal s

/-- BFINAL = 1, a single bit (R154). -/
def execBfinal (s : State) : Host.Outcome State Fault Refusal := finish (opAppendBit true s)

/-- BTYPE = 2, LSB-first over 2 bits (R154). -/
def execBtype (s : State) : Host.Outcome State Fault Refusal := finish (opAppendBitsLsb 2 2 s)

/-- HLIT − 257 in 5 bits LSB-first, 0..29 (R155, R65). -/
def execHlit (a : BitVec 5) (s : State) : Host.Outcome State Fault Refusal := finish (writeField a.toNat 5 29 s)

/-- HDIST − 1 in 5 bits LSB-first, 0..29 (R155, R65). -/
def execHdist (b : BitVec 5) (s : State) : Host.Outcome State Fault Refusal := finish (writeField b.toNat 5 29 s)

/-- HCLEN − 4 in 4 bits LSB-first, 0..15 (R156, R65). -/
def execHclen (c : BitVec 4) (s : State) : Host.Outcome State Fault Refusal := finish (writeField c.toNat 4 15 s)

/-- A meta code length in 3 bits LSB-first, 0..7 (R157, R66). -/
def execCllenField (d : BitVec 3) (s : State) : Host.Outcome State Fault Refusal :=
  finish (writeField d.toNat 3 7 s)

/-- Meta symbol 0: the next code length is 0 (R68). -/
def execCl0 (s : State) : Host.Outcome State Fault Refusal := finish (writeCoded .cl 0 0 0 s)

/-- Meta symbol 1: the next code length is 1 (R68). -/
def execCl1 (s : State) : Host.Outcome State Fault Refusal := finish (writeCoded .cl 1 0 0 s)

/-- Meta symbol 2: the next code length is 2 (R68). -/
def execCl2 (s : State) : Host.Outcome State Fault Refusal := finish (writeCoded .cl 2 0 0 s)

/-- Meta symbol 3: the next code length is 3 (R68). -/
def execCl3 (s : State) : Host.Outcome State Fault Refusal := finish (writeCoded .cl 3 0 0 s)

/-- Meta symbol 4: the next code length is 4 (R68). -/
def execCl4 (s : State) : Host.Outcome State Fault Refusal := finish (writeCoded .cl 4 0 0 s)

/-- Meta symbol 5: the next code length is 5 (R68). -/
def execCl5 (s : State) : Host.Outcome State Fault Refusal := finish (writeCoded .cl 5 0 0 s)

/-- Meta symbol 6: the next code length is 6 (R68). -/
def execCl6 (s : State) : Host.Outcome State Fault Refusal := finish (writeCoded .cl 6 0 0 s)

/-- Meta symbol 7: the next code length is 7 (R68). -/
def execCl7 (s : State) : Host.Outcome State Fault Refusal := finish (writeCoded .cl 7 0 0 s)

/-- Meta symbol 8: the next code length is 8 (R68). -/
def execCl8 (s : State) : Host.Outcome State Fault Refusal := finish (writeCoded .cl 8 0 0 s)

/-- Meta symbol 9: the next code length is 9 (R68). -/
def execCl9 (s : State) : Host.Outcome State Fault Refusal := finish (writeCoded .cl 9 0 0 s)

/-- Meta symbol 10: the next code length is 10 (R68). -/
def execCl10 (s : State) : Host.Outcome State Fault Refusal := finish (writeCoded .cl 10 0 0 s)

/-- Meta symbol 11: the next code length is 11 (R68). -/
def execCl11 (s : State) : Host.Outcome State Fault Refusal := finish (writeCoded .cl 11 0 0 s)

/-- Meta symbol 12: the next code length is 12 (R68). -/
def execCl12 (s : State) : Host.Outcome State Fault Refusal := finish (writeCoded .cl 12 0 0 s)

/-- Meta symbol 13: the next code length is 13 (R68). -/
def execCl13 (s : State) : Host.Outcome State Fault Refusal := finish (writeCoded .cl 13 0 0 s)

/-- Meta symbol 14: the next code length is 14 (R68). -/
def execCl14 (s : State) : Host.Outcome State Fault Refusal := finish (writeCoded .cl 14 0 0 s)

/-- Meta symbol 15: the next code length is 15 (R68). -/
def execCl15 (s : State) : Host.Outcome State Fault Refusal := finish (writeCoded .cl 15 0 0 s)

/-- Meta symbol 16: the previous code length 3 + x more times (R69). -/
def execCl16 (x : BitVec 2) (s : State) : Host.Outcome State Fault Refusal := finish (writeCoded .cl 16 x.toNat 2 s)

/-- Meta symbol 17: 3 + x zeros (R70). -/
def execCl17 (x : BitVec 3) (s : State) : Host.Outcome State Fault Refusal := finish (writeCoded .cl 17 x.toNat 3 s)

/-- Meta symbol 18: 11 + x zeros (R71). -/
def execCl18 (x : BitVec 7) (s : State) : Host.Outcome State Fault Refusal := finish (writeCoded .cl 18 x.toNat 7 s)

/-- The LL code of a byte (R72). -/
def execLiteral (b : Byte) (s : State) : Host.Outcome State Fault Refusal := finish (writeSymbol .ll b.toNat s)

/-- The LL code of symbol 256 (R76). -/
def execEob (s : State) : Host.Outcome State Fault Refusal := finish (writeSymbol .ll 256 s)

/-- Length code 257: lengths 3..3 (R73, R102). -/
def execLen257 (s : State) : Host.Outcome State Fault Refusal := finish (writeCoded .ll 257 0 0 s)

/-- Length code 258: lengths 4..4 (R73, R102). -/
def execLen258 (s : State) : Host.Outcome State Fault Refusal := finish (writeCoded .ll 258 0 0 s)

/-- Length code 259: lengths 5..5 (R73, R102). -/
def execLen259 (s : State) : Host.Outcome State Fault Refusal := finish (writeCoded .ll 259 0 0 s)

/-- Length code 260: lengths 6..6 (R73, R102). -/
def execLen260 (s : State) : Host.Outcome State Fault Refusal := finish (writeCoded .ll 260 0 0 s)

/-- Length code 261: lengths 7..7 (R73, R102). -/
def execLen261 (s : State) : Host.Outcome State Fault Refusal := finish (writeCoded .ll 261 0 0 s)

/-- Length code 262: lengths 8..8 (R73, R102). -/
def execLen262 (s : State) : Host.Outcome State Fault Refusal := finish (writeCoded .ll 262 0 0 s)

/-- Length code 263: lengths 9..9 (R73, R102). -/
def execLen263 (s : State) : Host.Outcome State Fault Refusal := finish (writeCoded .ll 263 0 0 s)

/-- Length code 264: lengths 10..10 (R73, R102). -/
def execLen264 (s : State) : Host.Outcome State Fault Refusal := finish (writeCoded .ll 264 0 0 s)

/-- Length code 265: lengths 11..12 (R73, R102). -/
def execLen265 (x : BitVec 1) (s : State) : Host.Outcome State Fault Refusal :=
  finish (writeCoded .ll 265 x.toNat 1 s)

/-- Length code 266: lengths 13..14 (R73, R102). -/
def execLen266 (x : BitVec 1) (s : State) : Host.Outcome State Fault Refusal :=
  finish (writeCoded .ll 266 x.toNat 1 s)

/-- Length code 267: lengths 15..16 (R73, R102). -/
def execLen267 (x : BitVec 1) (s : State) : Host.Outcome State Fault Refusal :=
  finish (writeCoded .ll 267 x.toNat 1 s)

/-- Length code 268: lengths 17..18 (R73, R102). -/
def execLen268 (x : BitVec 1) (s : State) : Host.Outcome State Fault Refusal :=
  finish (writeCoded .ll 268 x.toNat 1 s)

/-- Length code 269: lengths 19..22 (R73, R102). -/
def execLen269 (x : BitVec 2) (s : State) : Host.Outcome State Fault Refusal :=
  finish (writeCoded .ll 269 x.toNat 2 s)

/-- Length code 270: lengths 23..26 (R73, R102). -/
def execLen270 (x : BitVec 2) (s : State) : Host.Outcome State Fault Refusal :=
  finish (writeCoded .ll 270 x.toNat 2 s)

/-- Length code 271: lengths 27..30 (R73, R102). -/
def execLen271 (x : BitVec 2) (s : State) : Host.Outcome State Fault Refusal :=
  finish (writeCoded .ll 271 x.toNat 2 s)

/-- Length code 272: lengths 31..34 (R73, R102). -/
def execLen272 (x : BitVec 2) (s : State) : Host.Outcome State Fault Refusal :=
  finish (writeCoded .ll 272 x.toNat 2 s)

/-- Length code 273: lengths 35..42 (R73, R102). -/
def execLen273 (x : BitVec 3) (s : State) : Host.Outcome State Fault Refusal :=
  finish (writeCoded .ll 273 x.toNat 3 s)

/-- Length code 274: lengths 43..50 (R73, R102). -/
def execLen274 (x : BitVec 3) (s : State) : Host.Outcome State Fault Refusal :=
  finish (writeCoded .ll 274 x.toNat 3 s)

/-- Length code 275: lengths 51..58 (R73, R102). -/
def execLen275 (x : BitVec 3) (s : State) : Host.Outcome State Fault Refusal :=
  finish (writeCoded .ll 275 x.toNat 3 s)

/-- Length code 276: lengths 59..66 (R73, R102). -/
def execLen276 (x : BitVec 3) (s : State) : Host.Outcome State Fault Refusal :=
  finish (writeCoded .ll 276 x.toNat 3 s)

/-- Length code 277: lengths 67..82 (R73, R102). -/
def execLen277 (x : BitVec 4) (s : State) : Host.Outcome State Fault Refusal :=
  finish (writeCoded .ll 277 x.toNat 4 s)

/-- Length code 278: lengths 83..98 (R73, R102). -/
def execLen278 (x : BitVec 4) (s : State) : Host.Outcome State Fault Refusal :=
  finish (writeCoded .ll 278 x.toNat 4 s)

/-- Length code 279: lengths 99..114 (R73, R102). -/
def execLen279 (x : BitVec 4) (s : State) : Host.Outcome State Fault Refusal :=
  finish (writeCoded .ll 279 x.toNat 4 s)

/-- Length code 280: lengths 115..130 (R73, R102). -/
def execLen280 (x : BitVec 4) (s : State) : Host.Outcome State Fault Refusal :=
  finish (writeCoded .ll 280 x.toNat 4 s)

/-- Length code 281: lengths 131..162 (R73, R102). -/
def execLen281 (x : BitVec 5) (s : State) : Host.Outcome State Fault Refusal :=
  finish (writeCoded .ll 281 x.toNat 5 s)

/-- Length code 282: lengths 163..194 (R73, R102). -/
def execLen282 (x : BitVec 5) (s : State) : Host.Outcome State Fault Refusal :=
  finish (writeCoded .ll 282 x.toNat 5 s)

/-- Length code 283: lengths 195..226 (R73, R102). -/
def execLen283 (x : BitVec 5) (s : State) : Host.Outcome State Fault Refusal :=
  finish (writeCoded .ll 283 x.toNat 5 s)

/-- Lengths 227..257; extra value 31 is never used (R73, R81, R102). -/
def execLen284 (x : BitVec 5) (s : State) : Host.Outcome State Fault Refusal := 
  finish (if x.toNat = 31 then raise .internal s else writeCoded .ll 284 x.toNat 5 s)

/-- Length code 285: lengths 258..258 (R73, R102). -/
def execLen285 (s : State) : Host.Outcome State Fault Refusal := finish (writeCoded .ll 285 0 0 s)

/-- Distance code 0: distances 1..1 (R74, R104). -/
def execDist0 (s : State) : Host.Outcome State Fault Refusal := finish (writeCoded .dd 0 0 0 s)

/-- Distance code 1: distances 2..2 (R74, R104). -/
def execDist1 (s : State) : Host.Outcome State Fault Refusal := finish (writeCoded .dd 1 0 0 s)

/-- Distance code 2: distances 3..3 (R74, R104). -/
def execDist2 (s : State) : Host.Outcome State Fault Refusal := finish (writeCoded .dd 2 0 0 s)

/-- Distance code 3: distances 4..4 (R74, R104). -/
def execDist3 (s : State) : Host.Outcome State Fault Refusal := finish (writeCoded .dd 3 0 0 s)

/-- Distance code 4: distances 5..6 (R74, R104). -/
def execDist4 (x : BitVec 1) (s : State) : Host.Outcome State Fault Refusal := finish (writeCoded .dd 4 x.toNat 1 s)

/-- Distance code 5: distances 7..8 (R74, R104). -/
def execDist5 (x : BitVec 1) (s : State) : Host.Outcome State Fault Refusal := finish (writeCoded .dd 5 x.toNat 1 s)

/-- Distance code 6: distances 9..12 (R74, R104). -/
def execDist6 (x : BitVec 2) (s : State) : Host.Outcome State Fault Refusal := finish (writeCoded .dd 6 x.toNat 2 s)

/-- Distance code 7: distances 13..16 (R74, R104). -/
def execDist7 (x : BitVec 2) (s : State) : Host.Outcome State Fault Refusal := finish (writeCoded .dd 7 x.toNat 2 s)

/-- Distance code 8: distances 17..24 (R74, R104). -/
def execDist8 (x : BitVec 3) (s : State) : Host.Outcome State Fault Refusal := finish (writeCoded .dd 8 x.toNat 3 s)

/-- Distance code 9: distances 25..32 (R74, R104). -/
def execDist9 (x : BitVec 3) (s : State) : Host.Outcome State Fault Refusal := finish (writeCoded .dd 9 x.toNat 3 s)

/-- Distance code 10: distances 33..48 (R74, R104). -/
def execDist10 (x : BitVec 4) (s : State) : Host.Outcome State Fault Refusal :=
  finish (writeCoded .dd 10 x.toNat 4 s)

/-- Distance code 11: distances 49..64 (R74, R104). -/
def execDist11 (x : BitVec 4) (s : State) : Host.Outcome State Fault Refusal :=
  finish (writeCoded .dd 11 x.toNat 4 s)

/-- Distance code 12: distances 65..96 (R74, R104). -/
def execDist12 (x : BitVec 5) (s : State) : Host.Outcome State Fault Refusal :=
  finish (writeCoded .dd 12 x.toNat 5 s)

/-- Distance code 13: distances 97..128 (R74, R104). -/
def execDist13 (x : BitVec 5) (s : State) : Host.Outcome State Fault Refusal :=
  finish (writeCoded .dd 13 x.toNat 5 s)

/-- Distance code 14: distances 129..192 (R74, R104). -/
def execDist14 (x : BitVec 6) (s : State) : Host.Outcome State Fault Refusal :=
  finish (writeCoded .dd 14 x.toNat 6 s)

/-- Distance code 15: distances 193..256 (R74, R104). -/
def execDist15 (x : BitVec 6) (s : State) : Host.Outcome State Fault Refusal :=
  finish (writeCoded .dd 15 x.toNat 6 s)

/-- Distance code 16: distances 257..384 (R74, R104). -/
def execDist16 (x : BitVec 7) (s : State) : Host.Outcome State Fault Refusal :=
  finish (writeCoded .dd 16 x.toNat 7 s)

/-- Distance code 17: distances 385..512 (R74, R104). -/
def execDist17 (x : BitVec 7) (s : State) : Host.Outcome State Fault Refusal :=
  finish (writeCoded .dd 17 x.toNat 7 s)

/-- Distance code 18: distances 513..768 (R74, R104). -/
def execDist18 (x : BitVec 8) (s : State) : Host.Outcome State Fault Refusal :=
  finish (writeCoded .dd 18 x.toNat 8 s)

/-- Distance code 19: distances 769..1024 (R74, R104). -/
def execDist19 (x : BitVec 8) (s : State) : Host.Outcome State Fault Refusal :=
  finish (writeCoded .dd 19 x.toNat 8 s)

/-- Distance code 20: distances 1025..1536 (R74, R104). -/
def execDist20 (x : BitVec 9) (s : State) : Host.Outcome State Fault Refusal :=
  finish (writeCoded .dd 20 x.toNat 9 s)

/-- Distance code 21: distances 1537..2048 (R74, R104). -/
def execDist21 (x : BitVec 9) (s : State) : Host.Outcome State Fault Refusal :=
  finish (writeCoded .dd 21 x.toNat 9 s)

/-- Distance code 22: distances 2049..3072 (R74, R104). -/
def execDist22 (x : BitVec 10) (s : State) : Host.Outcome State Fault Refusal :=
  finish (writeCoded .dd 22 x.toNat 10 s)

/-- Distance code 23: distances 3073..4096 (R74, R104). -/
def execDist23 (x : BitVec 10) (s : State) : Host.Outcome State Fault Refusal :=
  finish (writeCoded .dd 23 x.toNat 10 s)

/-- Distance code 24: distances 4097..6144 (R74, R104). -/
def execDist24 (x : BitVec 11) (s : State) : Host.Outcome State Fault Refusal :=
  finish (writeCoded .dd 24 x.toNat 11 s)

/-- Distance code 25: distances 6145..8192 (R74, R104). -/
def execDist25 (x : BitVec 11) (s : State) : Host.Outcome State Fault Refusal :=
  finish (writeCoded .dd 25 x.toNat 11 s)

/-- Distance code 26: distances 8193..12288 (R74, R104). -/
def execDist26 (x : BitVec 12) (s : State) : Host.Outcome State Fault Refusal :=
  finish (writeCoded .dd 26 x.toNat 12 s)

/-- Distance code 27: distances 12289..16384 (R74, R104). -/
def execDist27 (x : BitVec 12) (s : State) : Host.Outcome State Fault Refusal :=
  finish (writeCoded .dd 27 x.toNat 12 s)

/-- Distance code 28: distances 16385..24576 (R74, R104). -/
def execDist28 (x : BitVec 13) (s : State) : Host.Outcome State Fault Refusal :=
  finish (writeCoded .dd 28 x.toNat 13 s)

/-- Distance code 29: distances 24577..32768 (R74, R104). -/
def execDist29 (x : BitVec 13) (s : State) : Host.Outcome State Fault Refusal :=
  finish (writeCoded .dd 29 x.toNat 13 s)

/-- The padding of the last byte (R77). -/
def execPad (s : State) : Host.Outcome State Fault Refusal := finish (opPad Config.defaultMaxInput s)

end Sys2Proof.Machine
end

