-- ==== Sys2Proof/Machine/Dispatch.lean ====
section
/-! DEFINITION. exec: one arm per instruction, each one direct call of the instruction's own meaning. -/

namespace Sys2Proof.Machine

def exec (i : Instr) (s : State) : Host.Outcome State Fault Refusal :=
  match i with
  | .appendBit b => Sys2Proof.Machine.execAppendBit b s
  | .appendBitsLsb value n => Sys2Proof.Machine.execAppendBitsLsb value n s
  | .appendBitsMsb value n => Sys2Proof.Machine.execAppendBitsMsb value n s
  | .finalize => Sys2Proof.Machine.execFinalize s
  | .lengthLookup len => Sys2Proof.Machine.execLengthLookup len s
  | .distLookup dist => Sys2Proof.Machine.execDistLookup dist s
  | .lzSearch => Sys2Proof.Machine.execLzSearch s
  | .lzStep => Sys2Proof.Machine.execLzStep s
  | .lz77 => Sys2Proof.Machine.execLz77 s
  | .tally => Sys2Proof.Machine.execTally s
  | .huffLeaves a => Sys2Proof.Machine.execHuffLeaves a s
  | .huffMerge => Sys2Proof.Machine.execHuffMerge s
  | .huffExtract a => Sys2Proof.Machine.execHuffExtract a s
  | .huffLimit a => Sys2Proof.Machine.execHuffLimit a s
  | .huffCanon a => Sys2Proof.Machine.execHuffCanon a s
  | .huffBuild a => Sys2Proof.Machine.execHuffBuild a s
  | .clRle => Sys2Proof.Machine.execClRle s
  | .clTally => Sys2Proof.Machine.execClTally s
  | .sizeHlit => Sys2Proof.Machine.execSizeHlit s
  | .sizeHdist => Sys2Proof.Machine.execSizeHdist s
  | .sizeHclen => Sys2Proof.Machine.execSizeHclen s
  | .writeHeader => Sys2Proof.Machine.execWriteHeader s
  | .writeCllens => Sys2Proof.Machine.execWriteCllens s
  | .writeRle => Sys2Proof.Machine.execWriteRle s
  | .writeLiteral b => Sys2Proof.Machine.execWriteLiteral b s
  | .writeMatch len dist => Sys2Proof.Machine.execWriteMatch len dist s
  | .writeTokens => Sys2Proof.Machine.execWriteTokens s
  | .writeEob => Sys2Proof.Machine.execWriteEob s
  | .compress => Sys2Proof.Machine.execCompress s
  | .bfinal => Sys2Proof.Machine.execBfinal s
  | .btype => Sys2Proof.Machine.execBtype s
  | .hlit a => Sys2Proof.Machine.execHlit a s
  | .hdist b => Sys2Proof.Machine.execHdist b s
  | .hclen c => Sys2Proof.Machine.execHclen c s
  | .cllenField d => Sys2Proof.Machine.execCllenField d s
  | .cl0 => Sys2Proof.Machine.execCl0 s
  | .cl1 => Sys2Proof.Machine.execCl1 s
  | .cl2 => Sys2Proof.Machine.execCl2 s
  | .cl3 => Sys2Proof.Machine.execCl3 s
  | .cl4 => Sys2Proof.Machine.execCl4 s
  | .cl5 => Sys2Proof.Machine.execCl5 s
  | .cl6 => Sys2Proof.Machine.execCl6 s
  | .cl7 => Sys2Proof.Machine.execCl7 s
  | .cl8 => Sys2Proof.Machine.execCl8 s
  | .cl9 => Sys2Proof.Machine.execCl9 s
  | .cl10 => Sys2Proof.Machine.execCl10 s
  | .cl11 => Sys2Proof.Machine.execCl11 s
  | .cl12 => Sys2Proof.Machine.execCl12 s
  | .cl13 => Sys2Proof.Machine.execCl13 s
  | .cl14 => Sys2Proof.Machine.execCl14 s
  | .cl15 => Sys2Proof.Machine.execCl15 s
  | .cl16 x => Sys2Proof.Machine.execCl16 x s
  | .cl17 x => Sys2Proof.Machine.execCl17 x s
  | .cl18 x => Sys2Proof.Machine.execCl18 x s
  | .literal b => Sys2Proof.Machine.execLiteral b s
  | .eob => Sys2Proof.Machine.execEob s
  | .len257 => Sys2Proof.Machine.execLen257 s
  | .len258 => Sys2Proof.Machine.execLen258 s
  | .len259 => Sys2Proof.Machine.execLen259 s
  | .len260 => Sys2Proof.Machine.execLen260 s
  | .len261 => Sys2Proof.Machine.execLen261 s
  | .len262 => Sys2Proof.Machine.execLen262 s
  | .len263 => Sys2Proof.Machine.execLen263 s
  | .len264 => Sys2Proof.Machine.execLen264 s
  | .len265 x => Sys2Proof.Machine.execLen265 x s
  | .len266 x => Sys2Proof.Machine.execLen266 x s
  | .len267 x => Sys2Proof.Machine.execLen267 x s
  | .len268 x => Sys2Proof.Machine.execLen268 x s
  | .len269 x => Sys2Proof.Machine.execLen269 x s
  | .len270 x => Sys2Proof.Machine.execLen270 x s
  | .len271 x => Sys2Proof.Machine.execLen271 x s
  | .len272 x => Sys2Proof.Machine.execLen272 x s
  | .len273 x => Sys2Proof.Machine.execLen273 x s
  | .len274 x => Sys2Proof.Machine.execLen274 x s
  | .len275 x => Sys2Proof.Machine.execLen275 x s
  | .len276 x => Sys2Proof.Machine.execLen276 x s
  | .len277 x => Sys2Proof.Machine.execLen277 x s
  | .len278 x => Sys2Proof.Machine.execLen278 x s
  | .len279 x => Sys2Proof.Machine.execLen279 x s
  | .len280 x => Sys2Proof.Machine.execLen280 x s
  | .len281 x => Sys2Proof.Machine.execLen281 x s
  | .len282 x => Sys2Proof.Machine.execLen282 x s
  | .len283 x => Sys2Proof.Machine.execLen283 x s
  | .len284 x => Sys2Proof.Machine.execLen284 x s
  | .len285 => Sys2Proof.Machine.execLen285 s
  | .dist0 => Sys2Proof.Machine.execDist0 s
  | .dist1 => Sys2Proof.Machine.execDist1 s
  | .dist2 => Sys2Proof.Machine.execDist2 s
  | .dist3 => Sys2Proof.Machine.execDist3 s
  | .dist4 x => Sys2Proof.Machine.execDist4 x s
  | .dist5 x => Sys2Proof.Machine.execDist5 x s
  | .dist6 x => Sys2Proof.Machine.execDist6 x s
  | .dist7 x => Sys2Proof.Machine.execDist7 x s
  | .dist8 x => Sys2Proof.Machine.execDist8 x s
  | .dist9 x => Sys2Proof.Machine.execDist9 x s
  | .dist10 x => Sys2Proof.Machine.execDist10 x s
  | .dist11 x => Sys2Proof.Machine.execDist11 x s
  | .dist12 x => Sys2Proof.Machine.execDist12 x s
  | .dist13 x => Sys2Proof.Machine.execDist13 x s
  | .dist14 x => Sys2Proof.Machine.execDist14 x s
  | .dist15 x => Sys2Proof.Machine.execDist15 x s
  | .dist16 x => Sys2Proof.Machine.execDist16 x s
  | .dist17 x => Sys2Proof.Machine.execDist17 x s
  | .dist18 x => Sys2Proof.Machine.execDist18 x s
  | .dist19 x => Sys2Proof.Machine.execDist19 x s
  | .dist20 x => Sys2Proof.Machine.execDist20 x s
  | .dist21 x => Sys2Proof.Machine.execDist21 x s
  | .dist22 x => Sys2Proof.Machine.execDist22 x s
  | .dist23 x => Sys2Proof.Machine.execDist23 x s
  | .dist24 x => Sys2Proof.Machine.execDist24 x s
  | .dist25 x => Sys2Proof.Machine.execDist25 x s
  | .dist26 x => Sys2Proof.Machine.execDist26 x s
  | .dist27 x => Sys2Proof.Machine.execDist27 x s
  | .dist28 x => Sys2Proof.Machine.execDist28 x s
  | .dist29 x => Sys2Proof.Machine.execDist29 x s
  | .pad => Sys2Proof.Machine.execPad s

end Sys2Proof.Machine
end

