-- ==== Sys2Proof/Machine/HostPort.lean ====
section
/-! DEFINITION. The host's transactions (R12 to R17, R57, R168, R172, R190, R195, R196). Each is atomic (R48). -/

namespace Sys2Proof.Machine

/-- A register's number (R12 to R15, R17). -/
def HostReg.number : HostReg → Nat
  | .ctrl => 0
  | .status => 1
  | .errcode => 2
  | .inLen => 3
  | .outLen => 4

/-- The register of a number; the numbers 0 to 4 and nothing else are host-addressable (R40). -/
def HostReg.ofNumber : Nat → Option HostReg
  | 0 => some .ctrl
  | 1 => some .status
  | 2 => some .errcode
  | 3 => some .inLen
  | 4 => some .outLen
  | _ => none

/-- A host write of one byte of `IN`: only while BUSY=0 (R57, R172), only at an index that exists (R11). -/
def hostWriteIn (maxInput index : Nat) (value : Byte) (s : State) : Host.Outcome State Fault Refusal :=
  if s.busy then .refused .hostWriteWhileBusy
  else if index < maxInput then .next { s with inp := Memory.write s.inp index value }
  else .fault .inputAddress

/-- A host write of `IN_LEN`: only while BUSY=0; any value (R12). -/
def hostWriteInLen (value : RegWord) (s : State) : Host.Outcome State Fault Refusal :=
  if s.busy then .refused .hostWriteWhileBusy else .next { s with inLen := value }

/-- A host write of `CTRL` (R13, R168): bit 0 starts an operation when BUSY=0; otherwise nothing happens (R196). -/
def hostWriteCtrl (value : RegWord) (s : State) : State :=
  if value.getLsbD 0 && !s.busy then s.start else s

/-- A host write of a register by its number: `CTRL` and `IN_LEN` can be written (R12, R13), and a write of a read-only
register changes nothing (R14, R15, R17, log entry 28). A number that no register has is refused (R40). -/
def hostWriteReg (number : Nat) (value : RegWord) (s : State) : Host.Outcome State Fault Refusal :=
  match HostReg.ofNumber number with
  | some .ctrl => .next (hostWriteCtrl value s)
  | some .inLen => hostWriteInLen value s
  | some .status | some .errcode | some .outLen => .next s
  | none => .refused (.noSuchRegister number)

/-- A host read of a register by its number: no side effect (R47). -/
def hostReadReg (number : Nat) (s : State) : Host.Outcome State Fault Refusal :=
  match HostReg.ofNumber number with
  | some reg => .next { s with hostData := s.readReg reg }
  | none => .refused (.noSuchRegister number)

/-- A host read of `OUT` (R16, R195): the byte while DONE=1 and below `OUT_LEN`; otherwise a value nobody knows. -/
def hostReadOut (index : Nat) (s : State) : State :=
  match (if s.done && decide (index < s.outLen) then Memory.read s.out index else none) with
  | some v => { s with hostData := v.setWidth 32 }
  | none => { s with hostData := (Config.unspecifiedOut s.fresh).setWidth 32, fresh := s.fresh + 1 }

/-- One host transaction. -/
def hostStep (op : HostOp) (s : State) : Host.Outcome State Fault Refusal :=
  match op with
  | .writeIn index value => hostWriteIn Config.defaultMaxInput index value s
  | .writeReg number value => hostWriteReg number value s
  | .readReg number => hostReadReg number s
  | .readOut index => .next (hostReadOut index s)
  | .reset => .next s.resetEvent

end Sys2Proof.Machine
end

