-- ==== Sys2Proof/Machine/Sequencer.lean ====
section
/-! DEFINITION. The sequencer (R18, R166): which operations each phase issues, the move to the next phase, and what
the engine does when nothing is issued. -/

namespace Sys2Proof.Machine

/-- The operations of a phase, in the order of R167. -/
def phaseOps : Phase → List Instr
  | .idle => []
  | .lz77 => [.lz77]
  | .tally => [.tally]
  | .huffLL => [.huffBuild .ll]
  | .huffDD => [.huffBuild .dd]
  | .sizesRle => [.sizeHlit, .sizeHdist, .clRle]
  | .huffCL => [.clTally, .huffBuild .cl, .sizeHclen]
  | .writeHdr => [.writeHeader]
  | .writeCllen => [.writeCllens]
  | .writeRle => [.writeRle]
  | .writeTok => [.writeTokens]
  | .writeEob => [.writeEob]
  | .finalize => [.finalize]
  | .done => []
  | .error => []

/-- `PHASE <- ph`: the phase's operations are issued. -/
def State.enter (s : State) (ph : Phase) : State := { s with phase := ph, opq := (phaseOps ph).map encode }

/-- BUSY=1 and nothing is issued: the phase has ended. Phase 0 ends with the size check (R167, R176), phase 12 with
completion (R169), every other with the move to the next (R18, R166). DONE and ERROR are quiescent (R189). -/
def advance (maxInput : Nat) (s : State) : Result :=
  match s.phase with
  | .idle => andThen (sizeCheck maxInput s) fun s => .ok (s.enter .lz77)
  | .lz77 => .ok (s.enter .tally)
  | .tally => .ok (s.enter .huffLL)
  | .huffLL => .ok (s.enter .huffDD)
  | .huffDD => .ok (s.enter .sizesRle)
  | .sizesRle => .ok (s.enter .huffCL)
  | .huffCL => .ok (s.enter .writeHdr)
  | .writeHdr => .ok (s.enter .writeCllen)
  | .writeCllen => .ok (s.enter .writeRle)
  | .writeRle => .ok (s.enter .writeTok)
  | .writeTok => .ok (s.enter .writeEob)
  | .writeEob => .ok (s.enter .finalize)
  | .finalize => .ok s.complete
  | .done => .ok s
  | .error => .ok s

end Sys2Proof.Machine
end

