-- ==== Sys2Proof/Machine/Step.lean ====
section
/-! DEFINITION. One step of the block: a turn of the host, or a move of the engine. The engine moves only while BUSY=1
(R165): it fetches the first issued operation and executes it, or, when nothing is issued, ends the phase. -/

namespace Sys2Proof.Machine

/-- A move of the engine. -/
def engineStep (s : State) : Host.Outcome State Fault Refusal :=
  if s.busy then
    match s.opq with
    | [] => finish (advance Config.defaultMaxInput s)
    | w :: rest =>
      match decode w with
      | .ok i => exec i { s with opq := rest }
      | .error _ => .refused (.undecodable w)
  else .next s

/-- One step. -/
def step (s : State) : Host.Outcome State Fault Refusal :=
  match s.hostQ with
  | [] => engineStep s
  | .wait :: q => engineStep { s with hostQ := q }
  | .act op :: q => hostStep op { s with hostQ := q }

/-- `s` with a table row's word as the one issued operation, the engine BUSY and the host silent, so that the next step
fetches and runs it (log entry 4). -/
def State.withFetchWord (s : State) (nbits w : Nat) : State :=
  { s with busy := true, done := false, err := false, hostQ := [], opq := [BitVec.ofNat 32 (w % 2 ^ nbits)] }

end Sys2Proof.Machine
end

