-- ==== Sys2Proof/Safety.lean ====
section
/-! DEFINITION. The terms claims are made in: the invariant of the state, the inverses the spec defines to say what a
result means (R45, R116, R149), the properties of code-length vectors (R131, R134), the streaming BitWriter (R97), and
the external checker `inflate` of the round trip (R8). Nothing here is part of the machine; in particular the block
has no decompressor (R4). -/

namespace Sys2Proof.Machine

/-! ## The invariant -/

/-- The shape of the register files and the agreement of the control registers: what every reachable state has. -/
structure State.Inv (s : State) : Prop where
  /-- at most one of BUSY, DONE, ERR is 1 (R14) -/
  busyAlone : s.busy = true → s.done = false ∧ s.err = false
  doneAlone : s.done = true → s.err = false
  /-- `PHASE` is DONE or ERROR exactly when the bit says so (R169, R179) -/
  phaseDone : s.done = true ↔ s.phase = .done
  phaseError : s.err = true ↔ s.phase = .error
  /-- all three bits are 0 only in phase IDLE (R14, R189) -/
  phaseIdle : s.busy = false → s.done = false → s.err = false → s.phase = .idle
  /-- `ERRCODE` is not 0 exactly after an error (R15) -/
  errcodeErr : s.err = true ↔ s.errcode ≠ .none
  /-- nothing is issued while the engine does not run (R165) -/
  quiet : s.busy = false → s.opq = []
  /-- every issued word is an instruction (R83; log entry 3) -/
  issued : ∀ w ∈ s.opq, ∃ i, decode w = .ok i
  /-- past the size check, `N` is at most `MAX_INPUT` (R176) -/
  inputFits : s.busy = true → s.phase ≠ .idle → s.n ≤ Config.defaultMaxInput
  /-- `OUT_LEN` is 0 before a result (R17, R180) -/
  noResult : s.busy = false → s.done = false → s.outLen = 0
  /-- every byte below `OUT_LEN` has been written (R17, R42, R94) -/
  outListed : ∀ k < s.outLen, ∃ b, Memory.read s.out k = some b
  /-- the register files have the sizes of R21, R23, R24 -/
  freqSize : ∀ a, (s.freq a).length = a.size
  lensSize : ∀ a, (s.lens a).length = a.size
  codesSize : ∀ a, (s.codes a).length = a.size
  /-- no code length is above its limit (R23) -/
  lensCap : ∀ a, ∀ l ∈ s.lens a, l ≤ a.maxLen
  /-- the header registers hold 0 or a value of their range (R25, R35) -/
  hlitRange : s.hlit = 0 ∨ 257 ≤ s.hlit ∧ s.hlit ≤ 286
  hdistRange : s.hdist = 0 ∨ 1 ≤ s.hdist ∧ s.hdist ≤ 30
  hclenRange : s.hclen = 0 ∨ 4 ≤ s.hclen ∧ s.hclen ≤ 19
  /-- tokens and tuples are in range (R20, R26, R60, R62) -/
  tokRange : ∀ t ∈ s.tok, t.wf = true
  rleRange : ∀ t ∈ s.rle, t.wf = true
  rleCount : s.nrle ≤ 316
  /-- `LIVE` is a set of indices of `NODE` (R22) -/
  liveRises : s.live.Pairwise (· < ·)
  liveInNode : ∀ i ∈ s.live, i < s.seq
  /-- the buffers are in canonical form and inside their index ranges (R11, R16, R40) -/
  inWf : Memory.wf s.inp = true
  outWf : Memory.wf s.out = true
  inRange : ∀ c ∈ s.inp, c.1 < Config.defaultMaxInput
  outRange : ∀ c ∈ s.out, c.1 < Config.outMax Config.defaultMaxInput

/-- What is issued is what remains of the operations of the present phase: nothing but the control sequence issues
operations (R83, R166; log entries 3 and 16). -/
def State.Sequenced (s : State) : Prop := s.opq <:+ (phaseOps s.phase).map encode

/-! ## Reset -/

/-- The values that R36 gives for reset. What R36 calls unspecified is not named. -/
def ResetValues (t : State) : Prop :=
  t.readReg .ctrl = 0 ∧ t.statusWord = 0 ∧ t.busy = false ∧ t.done = false ∧ t.err = false ∧ t.phase = .idle ∧
    t.errcode = .none ∧ t.inLen = 0 ∧ t.outLen = 0 ∧ t.n = 0 ∧ t.p = 0 ∧ t.ntok = 0 ∧ t.seq = 0 ∧ t.hlit = 0 ∧
    t.hdist = 0 ∧ t.hclen = 0 ∧ t.nrle = 0 ∧ t.nbits = 0 ∧ t.ti = 0 ∧ t.ri = 0 ∧ t.ci = 0 ∧ t.live = [] ∧
    ∀ a : Alphabet, t.freq a = List.replicate a.size 0 ∧ t.lens a = List.replicate a.size 0

/-! ## What the host sees as the result of a run -/

/-- `OUT[0..OUT_LEN)` (R171). -/
def State.outBytes (s : State) : List (Option Byte) := (List.range s.outLen).map (Memory.read s.out)

/-- `IN[0..N)` of the next operation: the bytes an accepted START compresses (R167, R168). -/
def State.nextInput (s : State) : List Byte := (List.range s.inLen.toNat).map s.inByte

/-- The host's part of one operation (R172, R193): the bytes of the input, its length (register 3), START (register 0);
then it lets the engine make the 29 moves of an operation: 12 phase moves, 16 operations, completion. -/
def hostProgram (X : List Byte) : List HostTurn :=
  (X.zipIdx.map fun e => .act (.writeIn e.2 e.1)) ++
    [.act (.writeReg 3 (BitVec.ofNat 32 X.length)), .act (.writeReg 0 1)] ++ List.replicate 29 .wait

/-- An instruction executed `k` times in a row. -/
def repeatInstr (i : Instr) : Nat → State → Host.Outcome State Fault Refusal
  | 0, s => .next s
  | k + 1, s =>
    match exec i s with
    | .next t => repeatInstr i k t
    | .fault f => .fault f
    | .refused r => .refused r

/-- Instructions executed one after the other. -/
def runInstrs : List Instr → State → Host.Outcome State Fault Refusal
  | [], s => .next s
  | i :: is, s =>
    match exec i s with
    | .next t => runInstrs is t
    | .fault f => .fault f
    | .refused r => .refused r

/-! ## Matches (R111 to R113, R205) -/

/-- A match of length `l` at distance `d` from the cursor: it starts in the window and stays inside the input. -/
def MatchAt (s : State) (d l : Nat) : Prop :=
  1 ≤ d ∧ d ≤ s.p ∧ d ≤ 32768 ∧ l ≤ 258 ∧ s.p + l ≤ s.n ∧ ∀ k < l, s.inByte (s.p - d + k) = s.inByte (s.p + k)

/-- The tokens of `r` further bytes `b` after the first of a run (R205). -/
def runTokens (b : Byte) (r : Nat) : List Token :=
  List.replicate (r / 258) (.backRef 258 1) ++
    (if 3 ≤ r % 258 then [.backRef (r % 258) 1] else List.replicate (r % 258) (.literal b))

/-! ## What tokens and tuples stand for -/

/-- The LL symbol a token is counted under (R121). -/
def Token.llSymbol : Token → Option Nat
  | .literal b => some b.toNat
  | .backRef length _ => (lengthLookup length).map Lookup.code

/-- The DD symbol a token is counted under (R122). -/
def Token.ddSymbol : Token → Option Nat
  | .literal _ => none
  | .backRef _ distance => (distLookup distance).map Lookup.code

/-- Appends `l` bytes, each the byte `d` before the end of what is there so far (R116). -/
def copyBack (d : Nat) : Nat → List Byte → List Byte
  | 0, E => E
  | l + 1, E => copyBack d l (E ++ [E.getD (E.length - d) 0])

/-- One token expanded onto the bytes so far (R116). -/
def expandToken (E : List Byte) : Token → List Byte
  | .literal b => E ++ [b]
  | .backRef l d => copyBack d l E

/-- `expand` on token streams (R116). -/
def expandTokens (T : List Token) : List Byte := T.foldl expandToken []

/-- One tuple expanded onto the lengths so far (R149). -/
def expandTuple (V : List Nat) (t : RleTuple) : List Nat :=
  if t.symbol = 16 then V ++ List.replicate (t.value + 3) (V.getLastD 0)
  else if t.symbol = 17 then V ++ List.replicate (t.value + 3) 0
  else if t.symbol = 18 then V ++ List.replicate (t.value + 11) 0
  else V ++ [t.symbol]

/-- `expand` on tuple sequences (R149). -/
def expandRle (R : List RleTuple) : List Nat := R.foldl expandTuple []

/-- The tuples of a maximal run of `z` zeros (R142): symbol 18 for 138 at a time, then what remains. -/
def zeroRun (z : Nat) : List RleTuple :=
  List.replicate (z / 138) ⟨18, 7, 127⟩ ++
    (if 11 ≤ z % 138 then [⟨18, 7, z % 138 - 11⟩]
    else if 3 ≤ z % 138 then [⟨17, 3, z % 138 - 3⟩]
    else List.replicate (z % 138) ⟨0, 0, 0⟩)

/-- The tuples of a non-zero length `v` and its `r` further repeats (R143): symbol 16 for 6 at a time, then what
remains. -/
def valueRun (v r : Nat) : List RleTuple :=
  ⟨v, 0, 0⟩ :: (List.replicate (r / 6) ⟨16, 2, 3⟩ ++
    (if 3 ≤ r % 6 then [⟨16, 2, r % 6 - 3⟩] else List.replicate (r % 6) ⟨v, 0, 0⟩))

/-! ## Code-length vectors -/

/-- Σ over the non-zero lengths of 2^(e − ℓ), the Kraft sum scaled by 2^e. -/
def kraft (e : Nat) (L : List Nat) : Nat := ((L.filter fun l => decide (l ≠ 0)).map fun l => 2 ^ (e - l)).sum

/-- Σ 2^(−ℓ) ≤ 1 over the non-zero lengths (R134). -/
def KraftAtMostOne (L : List Nat) : Prop := ∀ e, (∀ l ∈ L, l ≤ e) → kraft e L ≤ 2 ^ e

/-- Σ 2^(−ℓ) = 1 over the non-zero lengths (R131 point 4). -/
def KraftOne (L : List Nat) : Prop := ∀ e, (∀ l ∈ L, l ≤ e) → kraft e L = 2 ^ e

/-- The number of symbols with a code. -/
def usedCount (L : List Nat) : Nat := (L.filter fun l => decide (l ≠ 0)).length

/-- A limiter's postconditions, points 1 to 4 of R131: the identity where nothing is too long, and the others on a
frequency table `F` and the depths `U` of a tree with at least two leaves, one for every symbol `F` uses, few enough for
codes of the limit to exist. Point 5 is the type. -/
def LimiterConforms (limiter : List Nat → List Nat → Nat → List Nat) : Prop :=
  (∀ F U M, (∀ l ∈ U, l ≤ M) → limiter F U M = U) ∧
  ∀ F U M, F.length = U.length → (∀ s, 0 < F.getD s 0 → U.getD s 0 ≠ 0) →
    KraftOne U → 2 ≤ usedCount U → usedCount U ≤ 2 ^ M →
    (limiter F U M).length = U.length ∧ (∀ s, (limiter F U M).getD s 0 = 0 ↔ U.getD s 0 = 0) ∧
    (∀ l ∈ limiter F U M, l ≤ M) ∧ KraftOne (limiter F U M)

/-- The conforming parameters (R6): any bound from 10 MiB up, any limiter with the postconditions. -/
def Conforming (P : Config.Params) : Prop :=
  Config.defaultMaxInput ≤ P.maxInput ∧ LimiterConforms P.limiter

/-- The code of a symbol as a bit string, most significant bit first (R63). -/
def codeBits (L C : List Nat) (s : Nat) : List Bit := msbBits (C.getD s 0) (L.getD s 0)

/-- No code is a prefix of another (R80, R134). -/
def PrefixFree (L C : List Nat) : Prop :=
  ∀ s t, s ≠ t → L.getD s 0 ≠ 0 → L.getD t 0 ≠ 0 → ¬ codeBits L C s <+: codeBits L C t

/-! ## The sections of the block (R64) -/

/-- The bits of a tuple (R67): the meta symbol's code, then the extra bits. -/
def tupleBits (s : State) (t : RleTuple) : List Bit := codeBits s.cllen s.clcode t.symbol ++ lsbBits t.value t.extra

/-- The bits of a length and of a distance (R73, R74): the code, then the extra bits. -/
def lengthBits (s : State) (r : Lookup) : List Bit := codeBits s.lllen s.llcode r.code ++ lsbBits r.value r.extra
def distBits (s : State) (r : Lookup) : List Bit := codeBits s.ddlen s.ddcode r.code ++ lsbBits r.value r.extra

/-- The bits of a token (R72, R75). -/
def tokenBits (s : State) : Token → List Bit
  | .literal b => codeBits s.lllen s.llcode b.toNat
  | .backRef length distance =>
    match lengthLookup length, distLookup distance with
    | some c, some e => lengthBits s c ++ distBits s e
    | _, _ => []

/-- A token's symbols have codes (R164). -/
def TokenCoded (s : State) (t : Token) : Prop :=
  (∀ x, t.llSymbol = some x → s.lllen.getD x 0 ≠ 0) ∧ (∀ x, t.ddSymbol = some x → s.ddlen.getD x 0 ≠ 0)

/-! ## Reading the stream back (R80) -/

/-- Code tables a reader of the stream can use: one code per symbol, of at most 15 bits, none a prefix of another. -/
def Readable (k : CodeBook) : Prop :=
  ∀ a, (k.lens a).length = a.size ∧ (∀ l ∈ k.lens a, l ≤ 15) ∧ PrefixFree (k.lens a) (k.codes a)

/-- Where in the stream an element stands (R80); none for what is no element with bits of its own. -/
def positionOf (i : Instr) : Option Position :=
  match i.element? with
  | some (.coded .cl _ _ _) => some .codeLength
  | some (.coded .ll _ _ _) => some .token
  | some (.coded .dd _ _ _) => some .distance
  | some (.field _ _) =>
    match i with
    | .bfinal => some .bfinal
    | .btype => some .btype
    | .hlit _ => some .hlit
    | .hdist _ => some .hdist
    | .hclen _ => some .hclen
    | .cllenField _ => some .cllen
    | _ => none
  | none => none

/-! ## The tree of the builder -/

/-- `i` is the live node of the smallest (weight, seq) (R128). -/
def IsLightest (nodes : List Node) (live : List Nat) (i : Nat) : Prop :=
  i ∈ live ∧ ∀ j ∈ live, weightAt nodes i < weightAt nodes j ∨ (weightAt nodes i = weightAt nodes j ∧ i ≤ j)

/-- Below node `i`, a leaf of symbol `s` stands `d` levels down (R129). -/
inductive LeafBelow (nodes : List Node) : Nat → Nat → Nat → Prop where
  | leaf (i w s : Nat) : nodes[i]? = some (.leaf w s) → LeafBelow nodes i 0 s
  | left (i w l r d s : Nat) : nodes[i]? = some (.merged w l r) → LeafBelow nodes l d s → LeafBelow nodes i (d + 1) s
  | right (i w l r d s : Nat) : nodes[i]? = some (.merged w l r) → LeafBelow nodes r d s → LeafBelow nodes i (d + 1) s

/-! ## The streaming BitWriter (R97) -/

/-- The bytes written so far, `ACC` and `ACCN`. -/
structure Streamer where
  bytes : List Byte
  acc : Nat
  count : Nat
  deriving DecidableEq, Repr

/-- APPEND_BIT in the streaming form (R97). -/
def Streamer.push (w : Streamer) (b : Bit) : Streamer :=
  if w.count + 1 = 8 then ⟨w.bytes ++ [BitVec.ofNat 8 (w.acc + b.toNat * 2 ^ w.count)], 0, 0⟩
  else ⟨w.bytes, w.acc + b.toNat * 2 ^ w.count, w.count + 1⟩

/-- FINALIZE in the streaming form (R97). -/
def Streamer.finish (w : Streamer) : List Byte :=
  if 0 < w.count then w.bytes ++ [BitVec.ofNat 8 w.acc] else w.bytes

/-! ## The external checker (R8) -/

/-- The quantity an element's symbol and extra value stand for: base + value (R78). -/
def rangeValue (table : List CodeRow) (code value : Nat) : Option Nat :=
  (table.find? fun r => r.code == code).map fun r => r.base + value

/-- Reads `k` meta code lengths. -/
def inflateCllens : Nat → List Bit → Option (List Nat × List Bit)
  | 0, bs => some ([], bs)
  | k + 1, bs =>
    match decodeElement .cllen ⟨[], [], [], [], [], []⟩ bs with
    | .ok (.cllenField d, rest) => (inflateCllens k rest).map fun r => (d.toNat :: r.1, r.2)
    | _ => none

/-- The meta code lengths by symbol, from their order in the stream (R66). -/
def metaLengths (ds : List Nat) : List Nat :=
  (clOrder.zip ds).foldl (fun L x => L.set x.1 x.2) (List.replicate 19 0)

/-- Reads code-length elements until `want` lengths are spelled (R67, R149). -/
def inflateLengths (book : CodeBook) (want : Nat) : Nat → List Nat → List Bit → Option (List Nat × List Bit)
  | 0, _, _ => none
  | k + 1, V, bs =>
    if V.length = want then some (V, bs)
    else if want < V.length then none
    else
      match decodeElement .codeLength book bs with
      | .ok (i, rest) =>
        match i.element? with
        | some (.coded .cl 16 v n) => if V = [] then none else inflateLengths book want k (expandTuple V ⟨16, n, v⟩) rest
        | some (.coded .cl s v n) => inflateLengths book want k (expandTuple V ⟨s, n, v⟩) rest
        | _ => none
      | .error _ => none

/-- Reads token elements up to the end of block (R72 to R76) and expands them (R116). -/
def inflateTokens (book : CodeBook) : Nat → List Byte → List Bit → Option (List Byte × List Bit)
  | 0, _, _ => none
  | k + 1, E, bs =>
    match decodeElement .token book bs with
    | .ok (.literal b, rest) => inflateTokens book k (E ++ [b]) rest
    | .ok (.eob, rest) => some (E, rest)
    | .ok (i, rest) =>
      match i.element?, decodeElement .distance book rest with
      | some (.coded .ll c v _), .ok (j, rest') =>
        match j.element? with
        | some (.coded .dd e w _) =>
          match rangeValue lengthTable c v, rangeValue distTable e w with
          | some l, some d => if d ≤ E.length then inflateTokens book k (copyBack d l E) rest' else none
          | _, _ => none
        | _ => none
      | _, _ => none
    | .error _ => none

/-- `inflate` for a stream of one dynamic-Huffman block (R8, R64): none if the bits are no such block, or if more than
the padding of the last byte follows it. -/
def inflate (xs : List Byte) : Option (List Byte) :=
  match decodeElement .bfinal ⟨[], [], [], [], [], []⟩ (bytesToBits xs) with
  | .ok (.bfinal, b1) =>
    match decodeElement .btype ⟨[], [], [], [], [], []⟩ b1 with
    | .ok (.btype, b2) =>
      match decodeElement .hlit ⟨[], [], [], [], [], []⟩ b2 with
      | .ok (.hlit a, b3) =>
        match decodeElement .hdist ⟨[], [], [], [], [], []⟩ b3 with
        | .ok (.hdist b, b4) =>
          match decodeElement .hclen ⟨[], [], [], [], [], []⟩ b4 with
          | .ok (.hclen c, b5) =>
            (inflateCllens (c.toNat + 4) b5).bind fun r =>
            (inflateLengths ⟨[], [], [], [], metaLengths r.1, canonCodes (metaLengths r.1) 7 []⟩
              (a.toNat + 257 + (b.toNat + 1)) (r.2.length + 1) [] r.2).bind fun q =>
            (inflateTokens
              ⟨q.1.take (a.toNat + 257), canonCodes (q.1.take (a.toNat + 257)) 15 [],
                q.1.drop (a.toNat + 257), canonCodes (q.1.drop (a.toNat + 257)) 15 [], [], []⟩
              (q.2.length + 1) [] q.2).bind fun t =>
            if t.2.length < 8 ∧ t.2.all (· == false) then some t.1 else none
          | _ => none
        | _ => none
      | _ => none
    | _ => none
  | _ => none

end Sys2Proof.Machine
end

