-- ==== Sys2Proof/Certificates/Slice0/Obligations.lean ====
section
/-! DEFINITION. The statements for the provers. -/

open Sys2Proof Sys2Proof.Machine

/-! ## The step -/

/-- R18, R83: while BUSY=1 and the host is silent or lets the engine move, a step runs the first issued instruction,
with that instruction removed from the queue. -/
def Obligations.StepRunsTheIssuedInstruction : Prop :=
  ∀ (s : State) (w : OpWord) (rest : List OpWord) (i : Instr),
    s.busy = true → s.opq = w :: rest → decode w = .ok i →
    (s.hostQ = [] → step s = exec i { s with opq := rest }) ∧
    (∀ q, s.hostQ = .wait :: q → step s = exec i { s with opq := rest, hostQ := q })

/-- R165, R189: while BUSY=0 the engine does nothing. -/
def Obligations.EngineIsQuiescentUnlessBusy : Prop :=
  ∀ s : State, s.busy = false →
    (s.hostQ = [] → step s = .next s) ∧
    (∀ q, s.hostQ = .wait :: q → step s = .next { s with hostQ := q })

/-- R166, R167, R169, R176: when nothing is issued, the phase has ended. The engine makes the one move to the next
phase and issues that phase's operations; phase 0 ends with the size check, phase 12 with completion. The
bound of the size check is the spec's default, where any larger one conforms (log entry 1); the order of the phases is
the reference order (log entry 16), the queue the model's own (log entry 3). -/
def Obligations.PhasesFollowInTheFixedOrder : Prop :=
  (List.map phaseOps [.lz77, .tally, .huffLL, .huffDD, .sizesRle, .huffCL, .writeHdr, .writeCllen, .writeRle,
      .writeTok, .writeEob, .finalize] =
    [[.lz77], [.tally], [.huffBuild .ll], [.huffBuild .dd], [.sizeHlit, .sizeHdist, .clRle],
      [.clTally, .huffBuild .cl, .sizeHclen], [.writeHeader], [.writeCllens], [.writeRle], [.writeTokens],
      [.writeEob], [.finalize]]) ∧
  ∀ s : State, s.busy = true → s.hostQ = [] → s.opq = [] →
    (s.phase = .idle → s.n ≤ 10485760 →
      step s = .next { s with phase := .lz77, opq := (phaseOps .lz77).map encode }) ∧
    (s.phase = .idle → 10485760 < s.n → step s = .next (s.errorEntry .inputTooLarge)) ∧
    (∀ e ∈ [(Phase.lz77, Phase.tally), (.tally, .huffLL), (.huffLL, .huffDD), (.huffDD, .sizesRle),
        (.sizesRle, .huffCL), (.huffCL, .writeHdr), (.writeHdr, .writeCllen), (.writeCllen, .writeRle),
        (.writeRle, .writeTok), (.writeTok, .writeEob), (.writeEob, .finalize)],
      s.phase = e.1 → step s = .next { s with phase := e.2, opq := (phaseOps e.2).map encode }) ∧
    (s.phase = .finalize → step s = .next { s with done := true, busy := false, phase := .done })

/-- R18, R199: a move of the engine never takes `PHASE` back, and takes it at most one phase on unless it ends the
operation in DONE or ERROR. While only the control sequence has issued operations, the move stays in the phase, takes
it one phase on, or ends in ERROR. That the phases are these, in this order, is the model's choice of the reference
order (log entry 16). -/
def Obligations.PhaseOnlyMovesForward : Prop :=
  ∀ s t : State, s.Inv → (s.hostQ = [] ∨ ∃ q, s.hostQ = .wait :: q) → step s = .next t →
    s.phase.code ≤ t.phase.code ∧ (t.phase.code ≤ 12 → t.phase.code ≤ s.phase.code + 1) ∧
    (s.Sequenced → t.phase = s.phase ∨ t.phase.code = s.phase.code + 1 ∨ t.phase = .error)

/-- Every step keeps the invariant, whatever the host does; and it keeps that what is issued is what remains of the
present phase's operations (log entries 3 and 16). -/
def Obligations.EveryStepKeepsTheInvariant : Prop :=
  ∀ s t : State, s.Inv → step s = .next t → t.Inv ∧ (s.Sequenced → t.Sequenced)

/-- The state after reset satisfies the invariant, and nothing is issued in it. -/
def Obligations.ResetSatisfiesTheInvariant : Prop := State.reset.Inv ∧ State.reset.Sequenced

/-- In a state of the invariant a move of the engine is never refused. It faults on `IN` only with N above the bound, and
on `OUT` only if there are more bytes than `OUT_MAX`, or if COMPRESS is issued on top of bits that are there already,
which the control sequence never does. The faults and `OUT_MAX` are the model's choice (log entry 22), the bound of `IN`
is the spec's default (log entry 1), and issuing COMPRESS as an instruction is log entry 25. -/
def Obligations.EngineMovesAreNeverRefused : Prop :=
  ∀ s : State, s.Inv → (s.hostQ = [] ∨ ∃ q, s.hostQ = .wait :: q) →
    (∃ t, step s = .next t) ∨
    (step s = .fault .inputAddress ∧ 10485760 < s.n) ∨
    (step s = .fault .outputAddress ∧
      (Config.outMax 10485760 < (s.nbits + 7) / 8 ∨ s.opq.head? = some (encode .compress) ∧ s.nbits ≠ 0))

/-! ## The host -/

/-- R14, R18: the fields of `STATUS`. -/
def Obligations.StatusWordHasItsFields : Prop :=
  (List.map Phase.code [.idle, .lz77, .tally, .huffLL, .huffDD, .sizesRle, .huffCL, .writeHdr, .writeCllen,
    .writeRle, .writeTok, .writeEob, .finalize, .done, .error] = List.range 15) ∧
  ∀ s : State, s.statusWord.getLsbD 0 = s.busy ∧ s.statusWord.getLsbD 1 = s.done ∧
    s.statusWord.getLsbD 2 = s.err ∧ s.statusWord.getLsbD 3 = false ∧
    (s.statusWord.extractLsb' 4 4).toNat = s.phase.code ∧ ∀ k, 8 ≤ k → s.statusWord.getLsbD k = false

/-- R12, R13, R14, R15, R17, R40, R195, R47: what the host reads from the register of each number; a read has no side
effect. `OUT_LEN` reads 0 whenever DONE=0 (log entry 9). A number that no register has is refused by name (log entry
28). -/
def Obligations.HostReadsTheRegisters : Prop :=
  List.map HostReg.ofNumber [0, 1, 2, 3, 4] = [some .ctrl, some .status, some .errcode, some .inLen, some .outLen] ∧
  ∀ (s : State) (k : Nat) (q : List HostTurn), s.hostQ = .act (.readReg k) :: q →
    (∀ r, HostReg.ofNumber k = some r → r.number = k ∧ step s = .next { s with
      hostQ := q
      hostData := match r with
        | .ctrl => 0
        | .status => s.statusWord
        | .errcode => match s.errcode with
          | .none => 0
          | .inputTooLarge => 1
          | .internal => 2
        | .inLen => s.inLen
        | .outLen => if s.done = true then BitVec.ofNat 32 s.outLen else 0 }) ∧
    (5 ≤ k → step s = .refused (.noSuchRegister k))

/-- R11, R12, R40, R57, R172: the host's writes of `IN` and of the registers other than `CTRL`: `IN_LEN` is number 3. While BUSY=1 the model refuses them by name (log
entry 13), and a write at an index of `IN` that does not exist faults (log entry 22; the bound is that of log entry 1).
A write of a read-only register changes nothing, BUSY or not, and a write of a number that no register has is refused by
name (log entry 28). -/
def Obligations.HostWritesTheInputWhileNotBusy : Prop :=
  ∀ (s : State) (q : List HostTurn),
    (∀ v, s.hostQ = .act (.writeReg 3 v) :: q →
      (s.busy = false → step s = .next { s with hostQ := q, inLen := v }) ∧
      (s.busy = true → step s = .refused .hostWriteWhileBusy)) ∧
    (∀ k v, s.hostQ = .act (.writeIn k v) :: q →
      (s.busy = false → k < 10485760 →
        ∃ m, step s = .next { s with hostQ := q, inp := m } ∧ Memory.read m k = some v ∧
          (∀ j, j ≠ k → Memory.read m j = Memory.read s.inp j) ∧ (Memory.wf s.inp = true → Memory.wf m = true)) ∧
      (s.busy = false → 10485760 ≤ k → step s = .fault .inputAddress) ∧
      (s.busy = true → step s = .refused .hostWriteWhileBusy)) ∧
    (∀ k v, s.hostQ = .act (.writeReg k v) :: q →
      (k = 1 ∨ k = 2 ∨ k = 4 → step s = .next { s with hostQ := q }) ∧
      (5 ≤ k → step s = .refused (.noSuchRegister k)))

/-- R16, R195: a host read of `OUT` answers the byte while DONE=1 and below `OUT_LEN`; otherwise it answers the free
value of log entry 8. In a state of the invariant every index below `OUT_LEN` has its byte. -/
def Obligations.HostReadsTheOutputWhenDone : Prop :=
  ∀ (s : State) (k : Nat) (q : List HostTurn), s.hostQ = .act (.readOut k) :: q →
    (∀ b, s.done = true → k < s.outLen → Memory.read s.out k = some b →
      step s = .next { s with hostQ := q, hostData := b.setWidth 32 }) ∧
    (s.done = false ∨ s.outLen ≤ k →
      step s = .next { s with
        hostQ := q, hostData := (Config.unspecifiedOut s.fresh).setWidth 32, fresh := s.fresh + 1 }) ∧
    (s.Inv → s.done = true → k < s.outLen →
      ∃ b, Memory.read s.out k = some b ∧ step s = .next { s with hostQ := q, hostData := b.setWidth 32 })

/-- R196: a START write (register number 0) while BUSY=1 changes nothing. -/
def Obligations.StartWhileBusyIsIgnored : Prop :=
  ∀ (s : State) (v : RegWord) (q : List HostTurn), s.busy = true → s.hostQ = .act (.writeReg 0 v) :: q →
    step s = .next { s with hostQ := q }

/-- R35, R168, R13: what an accepted START leaves: the flags, the cleared pipeline data, `N`, and everything else as it
was. `PHASE` is 0 (log entry 10), nothing is issued (log entry 3), and `U` and the result latches take the values they
have at reset (log entry 6). A write of 0 to `CTRL.START` does nothing. `CTRL` is register number 0 (log entry 28). That
the code tables and `OUT` are as before is the model's inference (log entries 24 and 26). -/
def Obligations.AcceptedStartClearsThePipeline : Prop :=
  ∀ (s : State) (v : RegWord) (q : List HostTurn), s.busy = false → s.hostQ = .act (.writeReg 0 v) :: q →
    (v.getLsbD 0 = false → step s = .next { s with hostQ := q }) ∧
    (v.getLsbD 0 = true → ∃ t, step s = .next t ∧
      t.busy = true ∧ t.done = false ∧ t.err = false ∧ t.n = s.inLen.toNat ∧
      t.ntok = 0 ∧ t.nrle = 0 ∧ t.nbits = 0 ∧ t.seq = 0 ∧ t.outLen = 0 ∧ t.errcode = .none ∧
      t.p = 0 ∧ t.ti = 0 ∧ t.ri = 0 ∧ t.ci = 0 ∧ t.live = [] ∧ t.hlit = 0 ∧ t.hdist = 0 ∧ t.hclen = 0 ∧
      (∀ a : Alphabet, t.freq a = List.replicate a.size 0 ∧ t.lens a = List.replicate a.size 0 ∧
        t.codes a = s.codes a) ∧
      t.phase = .idle ∧ t.opq = [] ∧ t.u = [] ∧ t.lenRes = ⟨0, 0, 0⟩ ∧ t.distRes = ⟨0, 0, 0⟩ ∧ t.best = none ∧
      t.inLen = s.inLen ∧ t.inp = s.inp ∧ t.out = s.out ∧ t.epoch = s.epoch ∧ t.fresh = s.fresh ∧
      t.hostQ = q ∧ t.hostData = s.hostData)

/-- R190, R36, R198: the reset event gives every register its reset value, also while an operation runs. The state the
model starts in has the same values. The dropping of what was issued is the model's form of "abandoned" (log entry
3). -/
def Obligations.ResetGivesEveryRegisterItsValue : Prop :=
  ResetValues State.reset ∧
  ∀ (s : State) (q : List HostTurn), s.hostQ = .act .reset :: q →
    ∃ t, step s = .next t ∧ ResetValues t ∧ t.opq = [] ∧ t.hostQ = q

/-! ## The whole operation -/

/-- R166, R167: the sequencer's moves of an operation compute COMPRESS. That there are 29 is the model's step size (log
entry 3); the spec leaves the number of steps open (R201, U13). -/
def Obligations.SequencerComputesCompress : Prop :=
  ∀ s : State, s.busy = true → s.hostQ = [] → s.opq = [] → s.phase = .idle →
    Host.Core.run Sys2Proof.core 29 s = exec .compress s

/-- R7: an accepted START ends, with the full output or, for an oversized input, with InputTooLarge and none. Internal
is never raised (R177). The bound is the spec's default, where any larger one conforms (log entry 1). The count of 29
moves is the model's step size (log entry 3); the spec promises only that the operation ends (R200, R201). -/
def Obligations.EveryStartEnds : Prop :=
  ∀ s : State, s.hostQ = [] →
    ∃ t : State, Host.Core.run Sys2Proof.core 29 s.start = .next t ∧ t.busy = false ∧
      (s.inLen.toNat ≤ 10485760 → t.done = true ∧ t.err = false ∧ t.errcode = .none ∧ t.phase = .done ∧
        t.outLen = (t.nbits + 7) / 8 ∧ t.outBytes = (bitsToBytes t.bits).map some) ∧
      (10485760 < s.inLen.toNat → t.done = false ∧ t.err = true ∧ t.errcode = .inputTooLarge ∧ t.phase = .error ∧
        t.outLen = 0 ∧ t.out = s.out ∧ t.bits = [])

/-- R8: the output of an operation on at most 10 MiB inflates to its input, under the model's own inflater, where R8
speaks of every RFC 1951 decompressor (log entry 21). -/
def Obligations.RoundTrip : Prop :=
  ∀ s : State, s.inLen.toNat ≤ 10485760 →
    ∃ (t : State) (Y : List Byte), exec .compress s.start = .next t ∧ t.done = true ∧
      t.outBytes = Y.map some ∧ inflate Y = some s.nextInput

/-- R8 for every conforming size bound and every conforming length limiter (R6, R131, D2, D10), under the model's own
inflater, where R8 speaks of every RFC 1951 decompressor (log entry 21). -/
def Obligations.RoundTripOfEveryConformingBlock : Prop :=
  ∀ P : Config.Params, Conforming P → ∀ s : State, s.inLen.toNat ≤ P.maxInput →
    ∃ (t : State) (Y : List Byte), opCompress P s.start = .ok t ∧ t.done = true ∧
      t.outBytes = Y.map some ∧ inflate Y = some s.nextInput

/-- R131, R132: the default limiter meets the postconditions of every limiter, so the default parameters conform. -/
def Obligations.DefaultParametersConform : Prop := Conforming params

/-- R2, R173: what a run shows depends on the input bytes and on nothing else. -/
def Obligations.OutputDependsOnTheInputOnly : Prop :=
  ∀ s t s' : State, s.inLen = t.inLen → (∀ k < s.inLen.toNat, s.inByte k = t.inByte k) →
    exec .compress s.start = .next s' →
    ∃ t', exec .compress t.start = .next t' ∧ t'.done = s'.done ∧ t'.err = s'.err ∧ t'.errcode = s'.errcode ∧
      t'.outLen = s'.outLen ∧ t'.outBytes = s'.outBytes

/-- R172, R171, R8: a host that follows the protocol on an idle block, whatever ran before, finds DONE and an output
that inflates to what it wrote. The host's turns and the count of moves are the model's (log entries 3 and 5), and so is
the inflater, where R8 speaks of every RFC 1951 decompressor (log entry 21). -/
def Obligations.HostProtocolRoundTrip : Prop :=
  ∀ (s : State) (X : List Byte), s.busy = false → X.length ≤ 10485760 → s.hostQ = hostProgram X →
    ∃ (t : State) (Y : List Byte), Host.Core.run Sys2Proof.core (X.length + 31) s = .next t ∧
      t.busy = false ∧ t.done = true ∧ t.err = false ∧ t.errcode = .none ∧
      t.outBytes = Y.map some ∧ inflate Y = some X

/-- R64, R9, R56: the bits of a finished operation are one header, the meta code lengths, the code-length section, the
token section and one end of block, in that order and nothing else, and they fit the bound. -/
def Obligations.OutputIsOneDynamicBlock : Prop :=
  ∀ s : State, s.inLen.toNat ≤ 10485760 →
    ∃ t, exec .compress s.start = .next t ∧
      t.bits = [true] ++ [false, true] ++ lsbBits (t.hlit - 257) 5 ++ lsbBits (t.hdist - 1) 5 ++
        lsbBits (t.hclen - 4) 4 ++ (clOrder.take t.hclen).flatMap (fun c => lsbBits (t.cllen.getD c 0) 3) ++
        t.rle.flatMap (tupleBits t) ++ t.tok.flatMap (tokenBits t) ++ codeBits t.lllen t.llcode 256 ∧
      257 ≤ t.hlit ∧ t.hlit ≤ 286 ∧ 1 ≤ t.hdist ∧ t.hdist ≤ 30 ∧ 4 ≤ t.hclen ∧ t.hclen ≤ 19 ∧
      t.lllen.getD 256 0 ≠ 0 ∧ t.nbits ≤ 17 + 3 * 19 + 14 * 316 + 15 * s.inLen.toNat + 15 ∧
      t.outBytes = (bitsToBytes (t.bits ++ padBits t.nbits)).map some

/-! ## Errors -/

/-- R179, R176: error entry writes the error, the flags, `OUT_LEN` and `PHASE` and nothing else; COMPRESS on an
oversized input is error entry with InputTooLarge. The bound is the spec's default, where any larger one conforms (log
entry 1); `opq` is the model's own form of an abandoned operation (log entry 3). -/
def Obligations.ErrorEntryAndOversizedInput : Prop :=
  (∀ (e : ErrCode) (s : State), finish (raise e s) = .next { s with
    errcode := e, outLen := 0, err := true, busy := false, done := false, phase := .error, opq := [] }) ∧
  ∀ s : State, 10485760 < s.n → exec .compress s = .next { s with
    errcode := .inputTooLarge, outLen := 0, err := true, busy := false, done := false, phase := .error, opq := [] }

/-- R164, R178: writing a symbol that has no code raises Internal and emits nothing for it. A realisation may omit the
test; that the model makes it is log entry 30. -/
def Obligations.SymbolWithoutCodeRaisesInternal : Prop :=
  ∀ s : State,
    (∀ b : Byte, s.lllen.getD b.toNat 0 = 0 →
      exec (.writeLiteral b) s = .next (s.errorEntry .internal)) ∧
    (s.lllen.getD 256 0 = 0 → exec .writeEob s = .next (s.errorEntry .internal)) ∧
    (∀ (i : Instr) (a : Alphabet) (x v n : Nat), i.element? = some (.coded a x v n) → (s.lens a).getD x 0 = 0 →
      exec i s = .next (s.errorEntry .internal)) ∧
    (∀ l d c e, lengthLookup l = some c → distLookup d = some e → s.lllen.getD c.code 0 = 0 →
      exec (.writeMatch l d) s = .next (s.errorEntry .internal)) ∧
    (∀ l d c e, lengthLookup l = some c → distLookup d = some e → s.lllen.getD c.code 0 ≠ 0 →
      s.ddlen.getD e.code 0 = 0 →
      exec (.writeMatch l d) s = .next ({ s with bits := s.bits ++ lengthBits s c }.errorEntry .internal)) ∧
    ((∃ t ∈ s.tok, t.wf = true ∧ ¬ TokenCoded s t) →
      ∃ t, exec .writeTokens s = .next t ∧ t.err = true ∧ t.errcode = .internal ∧ t.outLen = 0) ∧
    ((∃ t ∈ s.rle, t.wf = true ∧ s.cllen.getD t.symbol 0 = 0) →
      ∃ t, exec .writeRle s = .next t ∧ t.err = true ∧ t.errcode = .internal ∧ t.outLen = 0)

/-- Log entry 11 (from R82, R178): the model raises Internal where an operand or a register is outside the range the
spec gives it. -/
def Obligations.OutOfRangeOperandsRaiseInternal : Prop :=
  ∀ s : State,
    (∀ l, l < 3 ∨ 258 < l → exec (.lengthLookup l) s = .next (s.errorEntry .internal)) ∧
    (∀ d, d < 1 ∨ 32768 < d → exec (.distLookup d) s = .next (s.errorEntry .internal)) ∧
    (∀ l d, l < 3 ∨ 258 < l ∨ d < 1 ∨ 32768 < d → exec (.writeMatch l d) s = .next (s.errorEntry .internal)) ∧
    (s.n ≤ 10485760 → s.n ≤ s.p → exec .lzStep s = .next (s.errorEntry .internal)) ∧
    (∀ a, s.live.length ≠ 1 → exec (.huffExtract a) s = .next (s.errorEntry .internal)) ∧
    (s.hlit < 257 ∨ 286 < s.hlit ∨ s.hdist < 1 ∨ 30 < s.hdist ∨ s.hclen < 4 ∨ 19 < s.hclen →
      exec .writeHeader s = .next (s.errorEntry .internal)) ∧
    (∀ a : BitVec 5, 29 < a.toNat → exec (.hlit a) s = .next (s.errorEntry .internal) ∧
      exec (.hdist a) s = .next (s.errorEntry .internal)) ∧
    exec (.len284 31) s = .next (s.errorEntry .internal) ∧
    ((∃ t ∈ s.tok, t.wf = false) →
      (∃ t, exec .tally s = .next t ∧ t.err = true ∧ t.errcode = .internal) ∧
      ∃ t, exec .writeTokens s = .next t ∧ t.err = true ∧ t.errcode = .internal) ∧
    ((∃ t ∈ s.rle, t.wf = false) →
      (∃ t, exec .clTally s = .next t ∧ t.err = true ∧ t.errcode = .internal) ∧
      ∃ t, exec .writeRle s = .next t ∧ t.err = true ∧ t.errcode = .internal)

/-- The model's choice of log entry 22: an access to an index that does not exist faults by name. The spec gives `IN`
and `OUT` their index ranges (R11, R16, R40, R56) and no address fault; the bound of `IN` is log entry 1, the padding
element's write log entry 12. -/
def Obligations.AccessesOutsideTheBuffersFault : Prop :=
  ∀ s : State,
    (10485760 < s.n → exec .lzSearch s = .fault .inputAddress ∧ exec .lzStep s = .fault .inputAddress ∧
      exec .lz77 s = .fault .inputAddress) ∧
    (Config.outMax 10485760 < (s.nbits + 7) / 8 → exec .finalize s = .fault .outputAddress ∧
      (s.nbits % 8 ≠ 0 → exec .pad s = .fault .outputAddress))

/-! ## BitWriter -/

/-- R91, R92, R93: what each append adds, bit by bit, and that it adds nothing else. -/
def Obligations.AppendsAddTheirBitsInOrder : Prop :=
  ∀ s : State,
    (∀ b, exec (.appendBit b) s = .next { s with bits := s.bits ++ [b] }) ∧
    (∀ v n, ∃ bs, exec (.appendBitsLsb v n) s = .next { s with bits := s.bits ++ bs } ∧ bs.length = n ∧
      ∀ i < n, bs[i]? = some (v.testBit i)) ∧
    (∀ v n, ∃ bs, exec (.appendBitsMsb v n) s = .next { s with bits := s.bits ++ bs } ∧ bs.length = n ∧
      ∀ i < n, bs[i]? = some (v.testBit (n - 1 - i))) ∧
    (Instr.appendBit true).selector = 0x01 ∧ (∀ v n, (Instr.appendBitsLsb v n).selector = 0x02) ∧
    ∀ v n, (Instr.appendBitsMsb v n).selector = 0x03

/-- R94, R43, R42: FINALIZE writes the packed bits, the last byte zero-padded, and `OUT_LEN`; every other byte of `OUT`
stays. -/
def Obligations.FinalizePacksTheBits : Prop :=
  ∀ s : State, (s.nbits + 7) / 8 ≤ Config.outMax 10485760 →
    ∃ out, exec .finalize s = .next { s with out := out, outLen := (s.nbits + 7) / 8 } ∧
      (∀ k < (s.nbits + 7) / 8, Memory.read out k =
        some (BitVec.ofNat 8 ((List.range 8).map fun j => (s.bits.getD (8 * k + j) false).toNat * 2 ^ j).sum)) ∧
      (∀ k, (s.nbits + 7) / 8 ≤ k → Memory.read out k = Memory.read s.out k) ∧
      (Memory.wf s.out = true → Memory.wf out = true)

/-- R77, R46, log entry 12: the padding element completes the last, partial byte of `OUT` with zero bits; it writes
nothing when the bits end on a byte. -/
def Obligations.PadCompletesTheLastByte : Prop :=
  ∀ s : State,
    (s.nbits % 8 = 0 → exec .pad s = .next s) ∧
    (s.nbits % 8 ≠ 0 → s.nbits / 8 < Config.outMax 10485760 →
      ∃ out b, exec .pad s = .next { s with out := out } ∧ Memory.read out (s.nbits / 8) = some b ∧
        (∀ j < 8, b.getLsbD j = (s.bits ++ padBits s.nbits).getD (8 * (s.nbits / 8) + j) false) ∧
        (∀ k, k ≠ s.nbits / 8 → Memory.read out k = Memory.read s.out k) ∧
        (Memory.wf s.out = true → Memory.wf out = true))

/-- R45, R96, R97: packing undoes unpacking; the number of bytes; unpacking gives the bits and the padding; the
streaming form of the BitWriter produces the same bytes. -/
def Obligations.PackingUnpackingAndStreamingAgree : Prop :=
  (∀ X : List Byte, bitsToBytes (bytesToBits X) = X) ∧
  (∀ B : List Bit, (bitsToBytes B).length = (B.length + 7) / 8) ∧
  (∀ B : List Bit, bytesToBits (bitsToBytes B) = B ++ padBits B.length) ∧
  ∀ B : List Bit, (B.foldl Streamer.push ⟨[], 0, 0⟩).finish = bitsToBytes B ∧
    8 * (B.foldl Streamer.push ⟨[], 0, 0⟩).bytes.length + (B.foldl Streamer.push ⟨[], 0, 0⟩).count = B.length

/-! ## CodeTables -/

/-- R101 to R105: each lookup answers from the one row that holds its operand; the extra value fits its count.
The result is latched in the model's own place (log entry 17), and the rows of codes 266 to 284 are those of RFC 1951
(log entry 20). -/
def Obligations.LookupsAnswerFromTheirTables : Prop :=
  (∀ (s : State) (l : Nat), 3 ≤ l → l ≤ 258 → ∃ r ∈ lengthTable, r.base ≤ l ∧ l ≤ r.last ∧ l - r.base < 2 ^ r.extra ∧
    exec (.lengthLookup l) s = .next { s with lenRes := ⟨r.code, r.extra, l - r.base⟩ } ∧
    ∀ r' ∈ lengthTable, r'.base ≤ l → l ≤ r'.last → r' = r) ∧
  ∀ (s : State) (d : Nat), 1 ≤ d → d ≤ 32768 → ∃ r ∈ distTable, r.base ≤ d ∧ d ≤ r.last ∧ d - r.base < 2 ^ r.extra ∧
    exec (.distLookup d) s = .next { s with distRes := ⟨r.code, r.extra, d - r.base⟩ } ∧
    ∀ r' ∈ distTable, r'.base ≤ d → d ≤ r'.last → r' = r

/-- R105, R106: the source's check values and the closed forms. The result is latched in the model's own place (log entry
17), and the closed form for lengths 13 to 257 gives the rows of codes 266 to 284, which are those of RFC 1951 (log
entry 20). -/
def Obligations.LookupsMeetTheClosedForms : Prop :=
  ∀ s : State,
    (∀ l, 3 ≤ l → l ≤ 10 → exec (.lengthLookup l) s = .next { s with lenRes := ⟨257 + (l - 3), 0, 0⟩ }) ∧
    (∀ l, 11 ≤ l → l ≤ 12 → exec (.lengthLookup l) s = .next { s with lenRes := ⟨265, 1, l - 11⟩ }) ∧
    exec (.lengthLookup 258) s = .next { s with lenRes := ⟨285, 0, 0⟩ } ∧
    (∀ g r v, 1 ≤ g → g ≤ 5 → r < 4 → v < 2 ^ g → 3 + (4 + r) * 2 ^ g + v < 258 →
      exec (.lengthLookup (3 + (4 + r) * 2 ^ g + v)) s = .next { s with lenRes := ⟨261 + 4 * g + r, g, v⟩ }) ∧
    (∀ d, 1 ≤ d → d ≤ 4 → exec (.distLookup d) s = .next { s with distRes := ⟨d - 1, 0, 0⟩ }) ∧
    (∀ g r v, 1 ≤ g → g ≤ 13 → r < 2 → v < 2 ^ g →
      exec (.distLookup (1 + (2 + r) * 2 ^ g + v)) s = .next { s with distRes := ⟨2 * g + 2 + r, g, v⟩ })

/-! ## LZ77 -/

/-- R111 to R113: the search answers the longest match of 3 to 258 bytes in the window, the nearest one on a tie, and no
match when there is none of 3 bytes. The answer is latched in the model's own place (log entry 17). -/
def Obligations.SearchFindsTheLongestNearestMatch : Prop :=
  ∀ s : State, s.n ≤ 10485760 → s.p < s.n →
    ∃ r : Option Hit, exec .lzSearch s = .next { s with best := r } ∧
      (∀ h, r = some h → 3 ≤ h.len ∧ MatchAt s h.dist h.len ∧
        ∀ d l, MatchAt s d l → l ≤ h.len ∧ (l = h.len → h.dist ≤ d)) ∧
      (r = none → ∀ d l, MatchAt s d l → l < 3)

/-- R114, R115: one step emits the match the search finds and moves past it, or a literal; near the end of the input it
emits literals. That LZ_SEARCH latches its answer and LZ_STEP does not is the model's choice (log entry 17). -/
def Obligations.LzStepEmitsOneToken : Prop :=
  ∀ s : State, s.n ≤ 10485760 → s.p < s.n →
    ∃ r : Option Hit, exec .lzSearch s = .next { s with best := r } ∧
      exec .lzStep s = .next (match r with
        | some h => { s with tok := s.tok ++ [.backRef h.len h.dist], p := s.p + h.len }
        | none => { s with tok := s.tok ++ [.literal (s.inByte s.p)], p := s.p + 1 }) ∧
      (∀ h, r = some h → 3 ≤ h.len ∧ h.len ≤ 258 ∧ 1 ≤ h.dist ∧ h.dist ≤ 32768 ∧ s.p + h.len ≤ s.n) ∧
      (s.n ≤ s.p + 2 → r = none)

/-- R110, R116, R119: LZ77 is LZ_STEP repeated from p = 0 to p = N; its tokens are in range and expand to the input. -/
def Obligations.Lz77TokensExpandToTheInput : Prop :=
  ∀ s : State, s.n ≤ 10485760 →
    ∃ T, exec .lz77 s = .next { s with p := s.n, tok := T } ∧
      repeatInstr .lzStep T.length { s with p := 0, tok := [] } = .next { s with p := s.n, tok := T } ∧
      expandTokens T = (List.range s.n).map s.inByte ∧ (∀ t ∈ T, t.wf = true) ∧
      T.length ≤ s.n ∧ s.n ≤ 258 * T.length

/-- R205: the tokens of an input of equal bytes. -/
def Obligations.RunsOfOneByte : Prop :=
  ∀ (s : State) (b : Byte), 1 ≤ s.n → s.n ≤ 10485760 → (∀ k < s.n, s.inByte k = b) →
    exec .lz77 s = .next { s with p := s.n, tok := .literal b :: runTokens b (s.n - 1) }

/-! ## FrequencyTally -/

/-- R120 to R122: what TALLY adds to each entry. That its lookups are not latched is the model's choice (log entry
17). -/
def Obligations.TallyCountsTheSymbols : Prop :=
  ∀ s : State, (∀ t ∈ s.tok, t.wf = true) → s.llf.length = 286 → s.ddf.length = 30 →
    ∃ llf ddf, exec .tally s = .next { s with ti := s.ntok, llf := llf, ddf := ddf } ∧
      llf.length = 286 ∧ ddf.length = 30 ∧
      (∀ x < 286, llf.getD x 0 = s.llf.getD x 0 + (s.tok.countP fun t => t.llSymbol == some x) +
        (if x = 256 then 1 else 0)) ∧
      (∀ x < 30, ddf.getD x 0 = s.ddf.getD x 0 + (s.tok.countP fun t => t.ddSymbol == some x))

/-! ## HuffmanBuilder -/

/-- R126, R127: the leaves in ascending symbol order: one per symbol of the mapping with its frequency, and the dummy of
weight 0 for the smallest unused symbol if the mapping has fewer than two. -/
def Obligations.LeavesAreTheUsedSymbolsAndTheDummy : Prop :=
  ∀ (a : Alphabet) (s : State), (s.freq a).length = a.size →
    ∃ L : List (Nat × Nat), exec (.huffLeaves a) s =
        .next { s with node := L.map (fun e => .leaf e.1 e.2), live := List.range L.length } ∧
      (L.map Prod.snd).Pairwise (· < ·) ∧
      ∀ w x, (w, x) ∈ L ↔ x < a.size ∧ w = (s.freq a).getD x 0 ∧
        (0 < w ∨ usedCount (s.freq a) < 2 ∧ ∀ y < x, (s.freq a).getD y 0 ≠ 0)

/-- R128: a merge takes the live node of the smallest (weight, seq), then the smallest of the rest, and puts them under
a new node, the first one on the left; merging goes on from there until one node is live, which takes one merge less
than there were live nodes, and keeps the nodes there were. -/
def Obligations.MergeBuildsOneTreeFromTheTwoLightest : Prop :=
  ∀ s : State,
    (∀ r, s.live = [r] → exec .huffMerge s = .next s) ∧
    (∀ a b, 2 ≤ s.live.length → IsLightest s.node s.live a → IsLightest s.node (s.live.erase a) b →
      exec .huffMerge s = exec .huffMerge { s with
        node := s.node ++ [.merged (weightAt s.node a + weightAt s.node b) a b]
        live := (s.live.erase a).erase b ++ [s.seq] }) ∧
    (s.live ≠ [] → ∃ (m : List Node) (root : Nat),
      exec .huffMerge s = .next { s with node := s.node ++ m, live := [root] } ∧ m.length + 1 = s.live.length)

/-- R129, R130: each leaf's length is its depth below the root; a root that is a leaf has length 1; a symbol without a
leaf has length 0. -/
def Obligations.ExtractGivesTheDepths : Prop :=
  ∀ (a : Alphabet) (s : State) (root : Nat), s.live = [root] → root < s.seq →
    (∀ (i w l r : Nat), s.node[i]? = some (Node.merged w l r) → l < i ∧ r < i) →
    (∀ x d e, LeafBelow s.node root d x → LeafBelow s.node root e x → d = e) →
    ∃ U, exec (.huffExtract a) s = .next { s with u := U } ∧ U.length = a.size ∧
      (∀ w x, s.node[root]? = some (.leaf w x) → U = (List.replicate a.size 0).set x 1) ∧
      (∀ w l r, s.node[root]? = some (.merged w l r) → ∀ x < a.size,
        (∀ d, LeafBelow s.node root d x → U.getD x 0 = d) ∧
        ((∀ d, ¬ LeafBelow s.node root d x) → U.getD x 0 = 0))

/-- R131: what HUFF_LIMIT leaves in the length vector. (`fit` gives the unlimited lengths the alphabet's size.) -/
def Obligations.LimitMeetsItsPostconditions : Prop :=
  ∀ (a : Alphabet) (s : State), ∃ L, exec (.huffLimit a) s = .next (s.setLens a L) ∧ L.length = a.size ∧
    (∀ l ∈ L, l ≤ a.maxLen) ∧
    ((∀ l ∈ fit a.size s.u, l ≤ a.maxLen) → L = fit a.size s.u) ∧
    (KraftOne (fit a.size s.u) → 2 ≤ usedCount (fit a.size s.u) →
      (∀ x, L.getD x 0 = 0 ↔ (fit a.size s.u).getD x 0 = 0) ∧ KraftOne L)

/-- R133: every symbol with a length gets its length's first code plus the number of smaller symbols of that length. -/
def Obligations.CanonicalCodes : Prop :=
  ∀ (a : Alphabet) (s : State), (∀ l ∈ s.lens a, l ≤ a.maxLen) →
    ∃ C, exec (.huffCanon a) s = .next (s.setCodes a C) ∧ C.length = (s.lens a).length ∧
      ∀ next : Nat → Nat, next 1 = 0 → (∀ l, 1 ≤ l → next (l + 1) = (next l + (s.lens a).count l) * 2) →
        ∀ x < (s.lens a).length, (s.lens a).getD x 0 ≠ 0 →
          C.getD x 0 = next ((s.lens a).getD x 0) + ((s.lens a).take x).count ((s.lens a).getD x 0)

/-- R134: the canonical codes of lengths that leave room are prefix-free and fit their lengths. -/
def Obligations.CanonicalCodesArePrefixFree : Prop :=
  ∀ (L old : List Nat) (M : Nat), KraftAtMostOne L → (∀ l ∈ L, l ≤ M) →
    PrefixFree L (canonCodes L M old) ∧
    ∀ x, L.getD x 0 ≠ 0 → (canonCodes L M old).getD x 0 < 2 ^ L.getD x 0

/-- R125, R135, R37: a build completes on every mapping; every symbol of the mapping gets a length within the limit, the
code is complete unless it has one symbol, and the codes are prefix-free. It does what HUFF_LEAVES, HUFF_MERGE,
HUFF_EXTRACT, HUFF_LIMIT and HUFF_CANON do one after the other; the check of R139, between the last two passes, never
stops it on a frequency table of the alphabet's size. -/
def Obligations.BuildMakesAPrefixCode : Prop :=
  ∀ (a : Alphabet) (s : State), (s.freq a).length = a.size →
    exec (.huffBuild a) s = runInstrs [.huffLeaves a, .huffMerge, .huffExtract a, .huffLimit a, .huffCanon a] s ∧
    ∃ node live u L C,
      exec (.huffBuild a) s = .next (({ s with node := node, live := live, u := u }.setLens a L).setCodes a C) ∧
      L.length = a.size ∧ C.length = a.size ∧ (∀ l ∈ L, l ≤ a.maxLen) ∧ 1 ≤ usedCount L ∧
      (∀ x < a.size, 0 < (s.freq a).getD x 0 → L.getD x 0 ≠ 0) ∧
      KraftAtMostOne L ∧ (2 ≤ usedCount L → KraftOne L) ∧ PrefixFree L C

/-! ## CodeLengthRLE -/

/-- R144, R145, R149: the tuples are in range, no more than the lengths, and expand to them; symbol 16 stands only after
a tuple of a non-zero length. -/
def Obligations.RleExpandsToTheLengths : Prop :=
  ∀ s : State, (∀ l ∈ s.lengthVector, l ≤ 15) →
    ∃ R, exec .clRle s = .next { s with rle := R } ∧ expandRle R = s.lengthVector ∧ (∀ t ∈ R, t.wf = true) ∧
      R.length ≤ s.lengthVector.length ∧
      ∀ k t, R[k]? = some t → t.symbol = 16 →
        ∃ j u, k = j + 1 ∧ R[j]? = some u ∧ 1 ≤ u.symbol ∧ u.symbol ≤ 16

/-- R142, R143, R144: the greedy rule on the first run of the vector, whatever follows it. -/
def Obligations.RleIsGreedy : Prop :=
  ∀ s s' : State, ∃ R, exec .clRle s' = .next { s' with rle := R } ∧
    (s.lengthVector = [] → exec .clRle s = .next { s with rle := [] }) ∧
    (∀ z, 1 ≤ z → s.lengthVector = List.replicate z 0 ++ s'.lengthVector → s'.lengthVector.head? ≠ some 0 →
      exec .clRle s = .next { s with rle := zeroRun z ++ R }) ∧
    (∀ v r, 1 ≤ v → s.lengthVector = v :: (List.replicate r v ++ s'.lengthVector) → s'.lengthVector.head? ≠ some v →
      exec .clRle s = .next { s with rle := valueRun v r ++ R })

/-- R148: what CL_TALLY adds to each entry. -/
def Obligations.ClTallyCountsTheTuples : Prop :=
  ∀ s : State, (∀ t ∈ s.rle, t.wf = true) → s.clf.length = 19 →
    ∃ clf, exec .clTally s = .next { s with ri := s.nrle, clf := clf } ∧ clf.length = 19 ∧
      ∀ x < 19, clf.getD x 0 = s.clf.getD x 0 + (s.rle.countP fun t => t.symbol == x)

/-! ## BlockWriter -/

/-- R150, R151, R152: the three sizes from the last non-zero length; with no non-zero length the stated minimum
(log entry 14). -/
def Obligations.SizesComeFromTheLastUsedSymbol : Prop :=
  ∀ s : State, ∃ h d c, exec .sizeHlit s = .next { s with hlit := h } ∧ exec .sizeHdist s = .next { s with hdist := d } ∧
    exec .sizeHclen s = .next { s with hclen := c } ∧
    (∀ m, s.lllen.getD m 0 ≠ 0 → (∀ k, m < k → s.lllen.getD k 0 = 0) → h = max 257 (m + 1)) ∧
    ((∀ k, s.lllen.getD k 0 = 0) → h = 257) ∧
    (∀ m, s.ddlen.getD m 0 ≠ 0 → (∀ k, m < k → s.ddlen.getD k 0 = 0) → d = max 1 (m + 1)) ∧
    ((∀ k, s.ddlen.getD k 0 = 0) → d = 1) ∧
    (∀ j < 19, s.cllen.getD (clOrder.getD j 0) 0 ≠ 0 →
      (∀ k, j < k → k < 19 → s.cllen.getD (clOrder.getD k 0) 0 = 0) → c = max 4 (j + 1)) ∧
    ((∀ k < 19, s.cllen.getD (clOrder.getD k 0) 0 = 0) → c = 4)

/-- R153 to R156, R65: the 17 header bits, field by field. -/
def Obligations.HeaderFields : Prop :=
  ∀ s : State, 257 ≤ s.hlit → s.hlit ≤ 286 → 1 ≤ s.hdist → s.hdist ≤ 30 → 4 ≤ s.hclen → s.hclen ≤ 19 →
    ∃ bs, exec .writeHeader s = .next { s with bits := s.bits ++ bs } ∧ bs.length = 17 ∧
      ofLsbBits (bs.take 1) = 1 ∧ ofLsbBits ((bs.drop 1).take 2) = 2 ∧
      ofLsbBits ((bs.drop 3).take 5) = s.hlit - 257 ∧ ofLsbBits ((bs.drop 8).take 5) = s.hdist - 1 ∧
      ofLsbBits ((bs.drop 13).take 4) = s.hclen - 4

/-- R157, R66: field i of the meta code lengths is the length of symbol `CL_ORDER[i]`, in 3 bits. -/
def Obligations.MetaLengthFields : Prop :=
  ∀ s : State, s.hclen ≤ 19 → (∀ l ∈ s.cllen, l ≤ 7) →
    ∃ bs, exec .writeCllens s = .next { s with ci := s.hclen, bits := s.bits ++ bs } ∧ bs.length = 3 * s.hclen ∧
      ∀ i < s.hclen, ofLsbBits ((bs.drop (3 * i)).take 3) = s.cllen.getD (clOrder.getD i 0) 0

/-- R158: the code-length section is the tuples' bits in order. -/
def Obligations.CodeLengthSection : Prop :=
  ∀ s : State, (∀ t ∈ s.rle, t.wf = true ∧ s.cllen.getD t.symbol 0 ≠ 0) →
    exec .writeRle s = .next { s with ri := s.nrle, bits := s.bits ++ s.rle.flatMap (tupleBits s) }

/-- R159, R160, R162: a literal, the end of block and a match. That the lookups of a match are not latched is the model's
choice (log entry 17). -/
def Obligations.TokenElements : Prop :=
  ∀ s : State,
    (∀ b : Byte, s.lllen.getD b.toNat 0 ≠ 0 →
      exec (.writeLiteral b) s = .next { s with bits := s.bits ++ codeBits s.lllen s.llcode b.toNat }) ∧
    (s.lllen.getD 256 0 ≠ 0 → exec .writeEob s = .next { s with bits := s.bits ++ codeBits s.lllen s.llcode 256 }) ∧
    (∀ l d c e, lengthLookup l = some c → distLookup d = some e → s.lllen.getD c.code 0 ≠ 0 →
      s.ddlen.getD e.code 0 ≠ 0 →
      exec (.writeMatch l d) s = .next { s with bits := s.bits ++
        (codeBits s.lllen s.llcode c.code ++ lsbBits c.value c.extra ++
          codeBits s.ddlen s.ddcode e.code ++ lsbBits e.value e.extra) })

/-- R161: the token section is the tokens' bits in order. That the lookups of a match are not latched is the model's
choice (log entry 17). -/
def Obligations.TokenSection : Prop :=
  ∀ s : State, (∀ t ∈ s.tok, t.wf = true ∧ TokenCoded s t) →
    exec .writeTokens s = .next { s with ti := s.ntok, bits := s.bits ++ s.tok.flatMap (tokenBits s) }

/-! ## The elements of the stream -/

/-- R65, R66: BFINAL, BTYPE, the three header counts and the meta code length append their field, LSB-first. -/
def Obligations.FieldElementsAppendTheirField : Prop :=
  ∀ (i : Instr) (v n : Nat) (s : State), i.element? = some (.field v n) → i.wf = true →
    exec i s = .next { s with bits := s.bits ++ lsbBits v n }

/-- R67 to R76: CL0 to CL18, LITERAL, EOB, LEN257 to LEN285 and DIST0 to DIST29 append their symbol's code, MSB-first,
then their extra bits, LSB-first. The extra-bit counts of LEN266 to LEN284 are those of RFC 1951 (log entry 20). -/
def Obligations.CodedElementsAppendCodeThenExtra : Prop :=
  ∀ (i : Instr) (a : Alphabet) (x v n : Nat) (s : State),
    i.element? = some (.coded a x v n) → i.wf = true → (s.lens a).getD x 0 ≠ 0 →
    exec i s = .next { s with bits := s.bits ++ (codeBits (s.lens a) (s.codes a) x ++ lsbBits v n) }

/-- R62, R68 to R76, R78: every element stands for a symbol of its alphabet with the extra bits of the symbol's row, and
every match length, distance and tuple has its element. The rows of length codes 266 to 284 are those of RFC 1951 (log
entry 20). -/
def Obligations.ElementsStandForTheirSymbols : Prop :=
  (∀ (i : Instr) (a : Alphabet) (x v n : Nat), i.element? = some (.coded a x v n) → i.wf = true → x < a.size ∧ v < 2 ^ n ∧
    (a = .cl → n = metaExtra x) ∧
    (a = .ll → x ≤ 256 → n = 0) ∧
    (a = .ll → 257 ≤ x → ∃ r ∈ lengthTable, r.code = x ∧ r.extra = n ∧ r.base + v ≤ r.last) ∧
    (a = .dd → ∃ r ∈ distTable, r.code = x ∧ r.extra = n ∧ r.base + v ≤ r.last)) ∧
  (∀ l c, lengthLookup l = some c →
    ∃ i : Instr, i.wf = true ∧ i.element? = some (.coded .ll c.code c.value c.extra)) ∧
  (∀ d c, distLookup d = some c →
    ∃ i : Instr, i.wf = true ∧ i.element? = some (.coded .dd c.code c.value c.extra)) ∧
  (∀ t : RleTuple, t.wf = true →
    ∃ i : Instr, i.wf = true ∧ i.element? = some (.coded .cl t.symbol t.value t.extra))

/-! ## Encoding -/

/-- R83: the 29 OPIDs, written out bit by bit, decode to the operations they stand for, and every other 6-bit number is
refused. (Every bit above the OPID is 0, which log entry 4 reads as the operands shown.) -/
def Obligations.OpidsDecodeToTheirOperations : Prop :=
  List.map (decodeTableWord 8) [0b000001, 0b000010, 0b000011, 0b000100, 0b001000, 0b001001, 0b010000, 0b010001,
      0b010010, 0b011000] =
    [some (.appendBit false), some (.appendBitsLsb 0 0), some (.appendBitsMsb 0 0), some .finalize,
      some (.lengthLookup 3), some (.distLookup 1), some .lzSearch, some .lzStep, some .lz77, some .tally] ∧
  List.map (decodeTableWord 8) [0b100000, 0b100001, 0b100010, 0b100011, 0b100100, 0b100101, 0b101000, 0b101001] =
    [some (.huffLeaves .ll), some .huffMerge, some (.huffExtract .ll), some (.huffLimit .ll), some (.huffCanon .ll),
      some (.huffBuild .ll), some .clRle, some .clTally] ∧
  List.map (decodeTableWord 8) [0b110000, 0b110001, 0b110010, 0b110011, 0b110100, 0b110101, 0b110110, 0b110111,
      0b111000, 0b111001, 0b111111] =
    [some .sizeHlit, some .sizeHdist, some .sizeHclen, some .writeHeader, some .writeCllens, some .writeRle,
      some (.writeLiteral 0), some (.writeMatch 3 1), some .writeTokens, some .writeEob, some .compress] ∧
  ∀ k < 64, k ∉ [0b000001, 0b000010, 0b000011, 0b000100, 0b001000, 0b001001, 0b010000, 0b010001, 0b010010, 0b011000,
      0b100000, 0b100001, 0b100010, 0b100011, 0b100100, 0b100101, 0b101000, 0b101001, 0b110000, 0b110001, 0b110010,
      0b110011, 0b110100, 0b110101, 0b110110, 0b110111, 0b111000, 0b111001, 0b111111] → decodeTableWord 8 k = none

/-- Decoding the word of a well-formed instruction gives it back, for every instruction and every operand. -/
def Obligations.DecodeOfEncode : Prop := ∀ i : Instr, i.wf = true → decode (encode i) = .ok i

/-- A word that decodes is the word of the instruction it decodes to, which is well formed. -/
def Obligations.EncodeOfDecode : Prop := ∀ (w : OpWord) (i : Instr), decode w = .ok i → i.wf = true ∧ encode i = w

/-- R80: in a readable code book every element's bits, whatever follows them, read back as that element. -/
def Obligations.ElementsReadBack : Prop :=
  ∀ (k : CodeBook) (i : Instr) (p : Position) (bs rest : List Bit), Readable k → i.wf = true →
    positionOf i = some p → encodeElement k i = some bs → decodeElement p k (bs ++ rest) = .ok (i, rest)
end

