-- ==== Sys2Proof/Laws/Memory.lean ====
section
/-! SUPPORT. The laws of the buffers of cells: a read after a write, and that a write keeps the canonical form. -/

namespace Sys2Proof.Machine

theorem Memory.read_write_same (m : List Host.Cell) (a : Nat) (v : Byte) :
    Memory.read (Memory.write m a v) a = some v := by
  induction m with
  | nil => simp [Memory.write, Memory.read]
  | cons c m ih =>
    obtain ⟨b, w⟩ := c
    unfold Memory.write
    split
    · simp [Memory.read]
    · split
      · simp [Memory.read]
      · rename_i h1 h2
        simp [Memory.read, Ne.symm h2, ih]

theorem Memory.read_write_other (m : List Host.Cell) (a b : Nat) (v : Byte) (h : b ≠ a) :
    Memory.read (Memory.write m a v) b = Memory.read m b := by
  induction m with
  | nil => simp [Memory.write, Memory.read, Ne.symm h]
  | cons c m ih =>
    obtain ⟨k, w⟩ := c
    unfold Memory.write
    split
    · simp [Memory.read, Ne.symm h]
    · split
      · rename_i h2
        subst h2
        simp [Memory.read, Ne.symm h]
      · simp [Memory.read, ih]

theorem Memory.risesFrom_write (m : List Host.Cell) (lo a : Nat) (v : Byte) (hlo : lo ≤ a)
    (h : Memory.risesFrom lo m = true) : Memory.risesFrom lo (Memory.write m a v) = true := by
  induction m generalizing lo with
  | nil => simp [Memory.write, Memory.risesFrom, hlo]
  | cons c m ih =>
    obtain ⟨b, w⟩ := c
    simp only [Memory.risesFrom, Bool.and_eq_true, decide_eq_true_eq] at h
    unfold Memory.write
    split
    · rename_i hab
      simp [Memory.risesFrom, hlo, h.2]
      omega
    · split
      · rename_i hab
        subst hab
        simp [Memory.risesFrom, hlo, h.2]
      · simp only [Memory.risesFrom, Bool.and_eq_true, decide_eq_true_eq]
        exact ⟨h.1, ih (b + 1) (by omega) h.2⟩

/-- Every write keeps the canonical form. -/
theorem Memory.wf_write (m : List Host.Cell) (a : Nat) (v : Byte) (h : Memory.wf m = true) :
    Memory.wf (Memory.write m a v) = true :=
  Memory.risesFrom_write m 0 a v (Nat.zero_le a) h

theorem Memory.wf_reset : Memory.wf State.reset.inp = true ∧ Memory.wf State.reset.out = true := ⟨rfl, rfl⟩

/-- What a write of bytes can do: it answers a state that differs in `OUT` only, or stops for an index that does not
exist. -/
theorem writeBytes_cases (mi a : Nat) (vs : List Byte) (s : State) :
    (a + vs.length ≤ Config.outMax mi ∨ vs = []) ∧
      (∃ out, writeBytes mi a vs s = .ok { s with out := out } ∧
        (∀ k, k < vs.length → Memory.read out (a + k) = vs[k]?) ∧
        (∀ b, (b < a ∨ a + vs.length ≤ b) → Memory.read out b = Memory.read s.out b) ∧
        (Memory.wf s.out = true → Memory.wf out = true)) ∨
    (vs ≠ [] ∧ Config.outMax mi < a + vs.length ∧ writeBytes mi a vs s = .error (.fault .outputAddress)) := by
  induction vs generalizing a s with
  | nil =>
    left
    exact ⟨.inr rfl, s.out, rfl, by simp, by simp, id⟩
  | cons v vs ih =>
    simp only [writeBytes, State.memWrite]
    by_cases ha : a < Config.outMax mi
    · simp only [ha, if_true, andThen]
      rcases ih (a + 1) { s with out := Memory.write s.out a v } with ⟨hb, out, h1, h2, h3, h4⟩ | ⟨h1, h2, h3⟩
      · left
        refine ⟨.inl ?_, out, h1, ?_, ?_, ?_⟩
        · rcases hb with hb | hb
          · simp only [List.length_cons]; omega
          · subst hb; simp; omega
        · intro k hk
          cases k with
          | zero =>
            rw [Nat.add_zero, h3 a (by omega), Memory.read_write_same]
            rfl
          | succ k =>
            have := h2 k (by simp at hk; omega)
            rw [show a + (k + 1) = a + 1 + k by omega, this]
            rfl
        · intro b hb'
          rw [h3 b (by simp at hb'; omega), Memory.read_write_other]
          simp at hb'; omega
        · intro h
          exact h4 (Memory.wf_write _ _ _ h)
      · right
        refine ⟨by simp, ?_, h3⟩
        simp only [List.length_cons]; omega
    · right
      refine ⟨by simp, ?_, ?_⟩
      · simp only [List.length_cons]; omega
      · simp [ha, andThen]

end Sys2Proof.Machine
end

