-- ==== Sys2Proof/Laws/PerInstr.lean ====
section
/-! SUPPORT. A family of per-instruction facts: the low byte of an instruction's word is its selector (R83 for the
operations; log entry 4 for the elements). -/

namespace Sys2Proof.Laws.SelectorByte

/-- The low byte of the encoded word is the selector. -/
def Statement (i : Instr) : Prop := (encode i).toNat % 256 = i.selector

theorem holds (i : Instr) : Statement i := by
  have h : i.selector < 256 := by cases i <;> simp [Instr.selector]
  simp only [Statement, encode, BitVec.toNat_ofNat]
  omega

theorem appendBit (b : Bit) : Statement (.appendBit b) := holds _
theorem appendBitsLsb (value : Nat) (n : Nat) : Statement (.appendBitsLsb value n) := holds _
theorem appendBitsMsb (value : Nat) (n : Nat) : Statement (.appendBitsMsb value n) := holds _
theorem finalize : Statement .finalize := holds _
theorem lengthLookup (len : Nat) : Statement (.lengthLookup len) := holds _
theorem distLookup (dist : Nat) : Statement (.distLookup dist) := holds _
theorem lzSearch : Statement .lzSearch := holds _
theorem lzStep : Statement .lzStep := holds _
theorem lz77 : Statement .lz77 := holds _
theorem tally : Statement .tally := holds _
theorem huffLeaves (a : Alphabet) : Statement (.huffLeaves a) := holds _
theorem huffMerge : Statement .huffMerge := holds _
theorem huffExtract (a : Alphabet) : Statement (.huffExtract a) := holds _
theorem huffLimit (a : Alphabet) : Statement (.huffLimit a) := holds _
theorem huffCanon (a : Alphabet) : Statement (.huffCanon a) := holds _
theorem huffBuild (a : Alphabet) : Statement (.huffBuild a) := holds _
theorem clRle : Statement .clRle := holds _
theorem clTally : Statement .clTally := holds _
theorem sizeHlit : Statement .sizeHlit := holds _
theorem sizeHdist : Statement .sizeHdist := holds _
theorem sizeHclen : Statement .sizeHclen := holds _
theorem writeHeader : Statement .writeHeader := holds _
theorem writeCllens : Statement .writeCllens := holds _
theorem writeRle : Statement .writeRle := holds _
theorem writeLiteral (b : Byte) : Statement (.writeLiteral b) := holds _
theorem writeMatch (len : Nat) (dist : Nat) : Statement (.writeMatch len dist) := holds _
theorem writeTokens : Statement .writeTokens := holds _
theorem writeEob : Statement .writeEob := holds _
theorem compress : Statement .compress := holds _
theorem bfinal : Statement .bfinal := holds _
theorem btype : Statement .btype := holds _
theorem hlit (a : BitVec 5) : Statement (.hlit a) := holds _
theorem hdist (b : BitVec 5) : Statement (.hdist b) := holds _
theorem hclen (c : BitVec 4) : Statement (.hclen c) := holds _
theorem cllenField (d : BitVec 3) : Statement (.cllenField d) := holds _
theorem cl0 : Statement .cl0 := holds _
theorem cl1 : Statement .cl1 := holds _
theorem cl2 : Statement .cl2 := holds _
theorem cl3 : Statement .cl3 := holds _
theorem cl4 : Statement .cl4 := holds _
theorem cl5 : Statement .cl5 := holds _
theorem cl6 : Statement .cl6 := holds _
theorem cl7 : Statement .cl7 := holds _
theorem cl8 : Statement .cl8 := holds _
theorem cl9 : Statement .cl9 := holds _
theorem cl10 : Statement .cl10 := holds _
theorem cl11 : Statement .cl11 := holds _
theorem cl12 : Statement .cl12 := holds _
theorem cl13 : Statement .cl13 := holds _
theorem cl14 : Statement .cl14 := holds _
theorem cl15 : Statement .cl15 := holds _
theorem cl16 (x : BitVec 2) : Statement (.cl16 x) := holds _
theorem cl17 (x : BitVec 3) : Statement (.cl17 x) := holds _
theorem cl18 (x : BitVec 7) : Statement (.cl18 x) := holds _
theorem literal (b : Byte) : Statement (.literal b) := holds _
theorem eob : Statement .eob := holds _
theorem len257 : Statement .len257 := holds _
theorem len258 : Statement .len258 := holds _
theorem len259 : Statement .len259 := holds _
theorem len260 : Statement .len260 := holds _
theorem len261 : Statement .len261 := holds _
theorem len262 : Statement .len262 := holds _
theorem len263 : Statement .len263 := holds _
theorem len264 : Statement .len264 := holds _
theorem len265 (x : BitVec 1) : Statement (.len265 x) := holds _
theorem len266 (x : BitVec 1) : Statement (.len266 x) := holds _
theorem len267 (x : BitVec 1) : Statement (.len267 x) := holds _
theorem len268 (x : BitVec 1) : Statement (.len268 x) := holds _
theorem len269 (x : BitVec 2) : Statement (.len269 x) := holds _
theorem len270 (x : BitVec 2) : Statement (.len270 x) := holds _
theorem len271 (x : BitVec 2) : Statement (.len271 x) := holds _
theorem len272 (x : BitVec 2) : Statement (.len272 x) := holds _
theorem len273 (x : BitVec 3) : Statement (.len273 x) := holds _
theorem len274 (x : BitVec 3) : Statement (.len274 x) := holds _
theorem len275 (x : BitVec 3) : Statement (.len275 x) := holds _
theorem len276 (x : BitVec 3) : Statement (.len276 x) := holds _
theorem len277 (x : BitVec 4) : Statement (.len277 x) := holds _
theorem len278 (x : BitVec 4) : Statement (.len278 x) := holds _
theorem len279 (x : BitVec 4) : Statement (.len279 x) := holds _
theorem len280 (x : BitVec 4) : Statement (.len280 x) := holds _
theorem len281 (x : BitVec 5) : Statement (.len281 x) := holds _
theorem len282 (x : BitVec 5) : Statement (.len282 x) := holds _
theorem len283 (x : BitVec 5) : Statement (.len283 x) := holds _
theorem len284 (x : BitVec 5) : Statement (.len284 x) := holds _
theorem len285 : Statement .len285 := holds _
theorem dist0 : Statement .dist0 := holds _
theorem dist1 : Statement .dist1 := holds _
theorem dist2 : Statement .dist2 := holds _
theorem dist3 : Statement .dist3 := holds _
theorem dist4 (x : BitVec 1) : Statement (.dist4 x) := holds _
theorem dist5 (x : BitVec 1) : Statement (.dist5 x) := holds _
theorem dist6 (x : BitVec 2) : Statement (.dist6 x) := holds _
theorem dist7 (x : BitVec 2) : Statement (.dist7 x) := holds _
theorem dist8 (x : BitVec 3) : Statement (.dist8 x) := holds _
theorem dist9 (x : BitVec 3) : Statement (.dist9 x) := holds _
theorem dist10 (x : BitVec 4) : Statement (.dist10 x) := holds _
theorem dist11 (x : BitVec 4) : Statement (.dist11 x) := holds _
theorem dist12 (x : BitVec 5) : Statement (.dist12 x) := holds _
theorem dist13 (x : BitVec 5) : Statement (.dist13 x) := holds _
theorem dist14 (x : BitVec 6) : Statement (.dist14 x) := holds _
theorem dist15 (x : BitVec 6) : Statement (.dist15 x) := holds _
theorem dist16 (x : BitVec 7) : Statement (.dist16 x) := holds _
theorem dist17 (x : BitVec 7) : Statement (.dist17 x) := holds _
theorem dist18 (x : BitVec 8) : Statement (.dist18 x) := holds _
theorem dist19 (x : BitVec 8) : Statement (.dist19 x) := holds _
theorem dist20 (x : BitVec 9) : Statement (.dist20 x) := holds _
theorem dist21 (x : BitVec 9) : Statement (.dist21 x) := holds _
theorem dist22 (x : BitVec 10) : Statement (.dist22 x) := holds _
theorem dist23 (x : BitVec 10) : Statement (.dist23 x) := holds _
theorem dist24 (x : BitVec 11) : Statement (.dist24 x) := holds _
theorem dist25 (x : BitVec 11) : Statement (.dist25 x) := holds _
theorem dist26 (x : BitVec 12) : Statement (.dist26 x) := holds _
theorem dist27 (x : BitVec 12) : Statement (.dist27 x) := holds _
theorem dist28 (x : BitVec 13) : Statement (.dist28 x) := holds _
theorem dist29 (x : BitVec 13) : Statement (.dist29 x) := holds _
theorem pad : Statement .pad := holds _

end Sys2Proof.Laws.SelectorByte
end

