-- ==== Sys2Proof/Laws/State.lean ====
section
/-! SUPPORT. One lemma per field per named update of the state, so that no proof unfolds a record update. -/

namespace Sys2Proof.Machine

/-! ### flagsStart -/

@[simp] theorem State.flagsStart_busy (s : State) : s.flagsStart.busy = true := rfl
@[simp] theorem State.flagsStart_done (s : State) : s.flagsStart.done = false := rfl
@[simp] theorem State.flagsStart_err (s : State) : s.flagsStart.err = false := rfl
@[simp] theorem State.flagsStart_phase (s : State) : s.flagsStart.phase = s.phase := rfl
@[simp] theorem State.flagsStart_errcode (s : State) : s.flagsStart.errcode = s.errcode := rfl
@[simp] theorem State.flagsStart_inLen (s : State) : s.flagsStart.inLen = s.inLen := rfl
@[simp] theorem State.flagsStart_outLen (s : State) : s.flagsStart.outLen = s.outLen := rfl
@[simp] theorem State.flagsStart_inp (s : State) : s.flagsStart.inp = s.inp := rfl
@[simp] theorem State.flagsStart_out (s : State) : s.flagsStart.out = s.out := rfl
@[simp] theorem State.flagsStart_n (s : State) : s.flagsStart.n = s.n := rfl
@[simp] theorem State.flagsStart_p (s : State) : s.flagsStart.p = s.p := rfl
@[simp] theorem State.flagsStart_ti (s : State) : s.flagsStart.ti = s.ti := rfl
@[simp] theorem State.flagsStart_ri (s : State) : s.flagsStart.ri = s.ri := rfl
@[simp] theorem State.flagsStart_ci (s : State) : s.flagsStart.ci = s.ci := rfl
@[simp] theorem State.flagsStart_tok (s : State) : s.flagsStart.tok = s.tok := rfl
@[simp] theorem State.flagsStart_llf (s : State) : s.flagsStart.llf = s.llf := rfl
@[simp] theorem State.flagsStart_ddf (s : State) : s.flagsStart.ddf = s.ddf := rfl
@[simp] theorem State.flagsStart_clf (s : State) : s.flagsStart.clf = s.clf := rfl
@[simp] theorem State.flagsStart_node (s : State) : s.flagsStart.node = s.node := rfl
@[simp] theorem State.flagsStart_live (s : State) : s.flagsStart.live = s.live := rfl
@[simp] theorem State.flagsStart_u (s : State) : s.flagsStart.u = s.u := rfl
@[simp] theorem State.flagsStart_lllen (s : State) : s.flagsStart.lllen = s.lllen := rfl
@[simp] theorem State.flagsStart_ddlen (s : State) : s.flagsStart.ddlen = s.ddlen := rfl
@[simp] theorem State.flagsStart_cllen (s : State) : s.flagsStart.cllen = s.cllen := rfl
@[simp] theorem State.flagsStart_llcode (s : State) : s.flagsStart.llcode = s.llcode := rfl
@[simp] theorem State.flagsStart_ddcode (s : State) : s.flagsStart.ddcode = s.ddcode := rfl
@[simp] theorem State.flagsStart_clcode (s : State) : s.flagsStart.clcode = s.clcode := rfl
@[simp] theorem State.flagsStart_hlit (s : State) : s.flagsStart.hlit = s.hlit := rfl
@[simp] theorem State.flagsStart_hdist (s : State) : s.flagsStart.hdist = s.hdist := rfl
@[simp] theorem State.flagsStart_hclen (s : State) : s.flagsStart.hclen = s.hclen := rfl
@[simp] theorem State.flagsStart_rle (s : State) : s.flagsStart.rle = s.rle := rfl
@[simp] theorem State.flagsStart_bits (s : State) : s.flagsStart.bits = s.bits := rfl
@[simp] theorem State.flagsStart_lenRes (s : State) : s.flagsStart.lenRes = s.lenRes := rfl
@[simp] theorem State.flagsStart_distRes (s : State) : s.flagsStart.distRes = s.distRes := rfl
@[simp] theorem State.flagsStart_best (s : State) : s.flagsStart.best = s.best := rfl
@[simp] theorem State.flagsStart_opq (s : State) : s.flagsStart.opq = s.opq := rfl
@[simp] theorem State.flagsStart_hostQ (s : State) : s.flagsStart.hostQ = s.hostQ := rfl
@[simp] theorem State.flagsStart_hostData (s : State) : s.flagsStart.hostData = s.hostData := rfl
@[simp] theorem State.flagsStart_epoch (s : State) : s.flagsStart.epoch = s.epoch := rfl
@[simp] theorem State.flagsStart_fresh (s : State) : s.flagsStart.fresh = s.fresh := rfl

/-! ### flagsDone -/

@[simp] theorem State.flagsDone_busy (s : State) : s.flagsDone.busy = false := rfl
@[simp] theorem State.flagsDone_done (s : State) : s.flagsDone.done = true := rfl
@[simp] theorem State.flagsDone_err (s : State) : s.flagsDone.err = s.err := rfl
@[simp] theorem State.flagsDone_phase (s : State) : s.flagsDone.phase = s.phase := rfl
@[simp] theorem State.flagsDone_errcode (s : State) : s.flagsDone.errcode = s.errcode := rfl
@[simp] theorem State.flagsDone_inLen (s : State) : s.flagsDone.inLen = s.inLen := rfl
@[simp] theorem State.flagsDone_outLen (s : State) : s.flagsDone.outLen = s.outLen := rfl
@[simp] theorem State.flagsDone_inp (s : State) : s.flagsDone.inp = s.inp := rfl
@[simp] theorem State.flagsDone_out (s : State) : s.flagsDone.out = s.out := rfl
@[simp] theorem State.flagsDone_n (s : State) : s.flagsDone.n = s.n := rfl
@[simp] theorem State.flagsDone_p (s : State) : s.flagsDone.p = s.p := rfl
@[simp] theorem State.flagsDone_ti (s : State) : s.flagsDone.ti = s.ti := rfl
@[simp] theorem State.flagsDone_ri (s : State) : s.flagsDone.ri = s.ri := rfl
@[simp] theorem State.flagsDone_ci (s : State) : s.flagsDone.ci = s.ci := rfl
@[simp] theorem State.flagsDone_tok (s : State) : s.flagsDone.tok = s.tok := rfl
@[simp] theorem State.flagsDone_llf (s : State) : s.flagsDone.llf = s.llf := rfl
@[simp] theorem State.flagsDone_ddf (s : State) : s.flagsDone.ddf = s.ddf := rfl
@[simp] theorem State.flagsDone_clf (s : State) : s.flagsDone.clf = s.clf := rfl
@[simp] theorem State.flagsDone_node (s : State) : s.flagsDone.node = s.node := rfl
@[simp] theorem State.flagsDone_live (s : State) : s.flagsDone.live = s.live := rfl
@[simp] theorem State.flagsDone_u (s : State) : s.flagsDone.u = s.u := rfl
@[simp] theorem State.flagsDone_lllen (s : State) : s.flagsDone.lllen = s.lllen := rfl
@[simp] theorem State.flagsDone_ddlen (s : State) : s.flagsDone.ddlen = s.ddlen := rfl
@[simp] theorem State.flagsDone_cllen (s : State) : s.flagsDone.cllen = s.cllen := rfl
@[simp] theorem State.flagsDone_llcode (s : State) : s.flagsDone.llcode = s.llcode := rfl
@[simp] theorem State.flagsDone_ddcode (s : State) : s.flagsDone.ddcode = s.ddcode := rfl
@[simp] theorem State.flagsDone_clcode (s : State) : s.flagsDone.clcode = s.clcode := rfl
@[simp] theorem State.flagsDone_hlit (s : State) : s.flagsDone.hlit = s.hlit := rfl
@[simp] theorem State.flagsDone_hdist (s : State) : s.flagsDone.hdist = s.hdist := rfl
@[simp] theorem State.flagsDone_hclen (s : State) : s.flagsDone.hclen = s.hclen := rfl
@[simp] theorem State.flagsDone_rle (s : State) : s.flagsDone.rle = s.rle := rfl
@[simp] theorem State.flagsDone_bits (s : State) : s.flagsDone.bits = s.bits := rfl
@[simp] theorem State.flagsDone_lenRes (s : State) : s.flagsDone.lenRes = s.lenRes := rfl
@[simp] theorem State.flagsDone_distRes (s : State) : s.flagsDone.distRes = s.distRes := rfl
@[simp] theorem State.flagsDone_best (s : State) : s.flagsDone.best = s.best := rfl
@[simp] theorem State.flagsDone_opq (s : State) : s.flagsDone.opq = s.opq := rfl
@[simp] theorem State.flagsDone_hostQ (s : State) : s.flagsDone.hostQ = s.hostQ := rfl
@[simp] theorem State.flagsDone_hostData (s : State) : s.flagsDone.hostData = s.hostData := rfl
@[simp] theorem State.flagsDone_epoch (s : State) : s.flagsDone.epoch = s.epoch := rfl
@[simp] theorem State.flagsDone_fresh (s : State) : s.flagsDone.fresh = s.fresh := rfl

/-! ### flagsError -/

@[simp] theorem State.flagsError_busy (s : State) : s.flagsError.busy = false := rfl
@[simp] theorem State.flagsError_done (s : State) : s.flagsError.done = false := rfl
@[simp] theorem State.flagsError_err (s : State) : s.flagsError.err = true := rfl
@[simp] theorem State.flagsError_phase (s : State) : s.flagsError.phase = s.phase := rfl
@[simp] theorem State.flagsError_errcode (s : State) : s.flagsError.errcode = s.errcode := rfl
@[simp] theorem State.flagsError_inLen (s : State) : s.flagsError.inLen = s.inLen := rfl
@[simp] theorem State.flagsError_outLen (s : State) : s.flagsError.outLen = s.outLen := rfl
@[simp] theorem State.flagsError_inp (s : State) : s.flagsError.inp = s.inp := rfl
@[simp] theorem State.flagsError_out (s : State) : s.flagsError.out = s.out := rfl
@[simp] theorem State.flagsError_n (s : State) : s.flagsError.n = s.n := rfl
@[simp] theorem State.flagsError_p (s : State) : s.flagsError.p = s.p := rfl
@[simp] theorem State.flagsError_ti (s : State) : s.flagsError.ti = s.ti := rfl
@[simp] theorem State.flagsError_ri (s : State) : s.flagsError.ri = s.ri := rfl
@[simp] theorem State.flagsError_ci (s : State) : s.flagsError.ci = s.ci := rfl
@[simp] theorem State.flagsError_tok (s : State) : s.flagsError.tok = s.tok := rfl
@[simp] theorem State.flagsError_llf (s : State) : s.flagsError.llf = s.llf := rfl
@[simp] theorem State.flagsError_ddf (s : State) : s.flagsError.ddf = s.ddf := rfl
@[simp] theorem State.flagsError_clf (s : State) : s.flagsError.clf = s.clf := rfl
@[simp] theorem State.flagsError_node (s : State) : s.flagsError.node = s.node := rfl
@[simp] theorem State.flagsError_live (s : State) : s.flagsError.live = s.live := rfl
@[simp] theorem State.flagsError_u (s : State) : s.flagsError.u = s.u := rfl
@[simp] theorem State.flagsError_lllen (s : State) : s.flagsError.lllen = s.lllen := rfl
@[simp] theorem State.flagsError_ddlen (s : State) : s.flagsError.ddlen = s.ddlen := rfl
@[simp] theorem State.flagsError_cllen (s : State) : s.flagsError.cllen = s.cllen := rfl
@[simp] theorem State.flagsError_llcode (s : State) : s.flagsError.llcode = s.llcode := rfl
@[simp] theorem State.flagsError_ddcode (s : State) : s.flagsError.ddcode = s.ddcode := rfl
@[simp] theorem State.flagsError_clcode (s : State) : s.flagsError.clcode = s.clcode := rfl
@[simp] theorem State.flagsError_hlit (s : State) : s.flagsError.hlit = s.hlit := rfl
@[simp] theorem State.flagsError_hdist (s : State) : s.flagsError.hdist = s.hdist := rfl
@[simp] theorem State.flagsError_hclen (s : State) : s.flagsError.hclen = s.hclen := rfl
@[simp] theorem State.flagsError_rle (s : State) : s.flagsError.rle = s.rle := rfl
@[simp] theorem State.flagsError_bits (s : State) : s.flagsError.bits = s.bits := rfl
@[simp] theorem State.flagsError_lenRes (s : State) : s.flagsError.lenRes = s.lenRes := rfl
@[simp] theorem State.flagsError_distRes (s : State) : s.flagsError.distRes = s.distRes := rfl
@[simp] theorem State.flagsError_best (s : State) : s.flagsError.best = s.best := rfl
@[simp] theorem State.flagsError_opq (s : State) : s.flagsError.opq = s.opq := rfl
@[simp] theorem State.flagsError_hostQ (s : State) : s.flagsError.hostQ = s.hostQ := rfl
@[simp] theorem State.flagsError_hostData (s : State) : s.flagsError.hostData = s.hostData := rfl
@[simp] theorem State.flagsError_epoch (s : State) : s.flagsError.epoch = s.epoch := rfl
@[simp] theorem State.flagsError_fresh (s : State) : s.flagsError.fresh = s.fresh := rfl

/-! ### emit -/

@[simp] theorem State.emit_busy (s : State) (bs : List Bit) : (s.emit bs).busy = s.busy := rfl
@[simp] theorem State.emit_done (s : State) (bs : List Bit) : (s.emit bs).done = s.done := rfl
@[simp] theorem State.emit_err (s : State) (bs : List Bit) : (s.emit bs).err = s.err := rfl
@[simp] theorem State.emit_phase (s : State) (bs : List Bit) : (s.emit bs).phase = s.phase := rfl
@[simp] theorem State.emit_errcode (s : State) (bs : List Bit) : (s.emit bs).errcode = s.errcode := rfl
@[simp] theorem State.emit_inLen (s : State) (bs : List Bit) : (s.emit bs).inLen = s.inLen := rfl
@[simp] theorem State.emit_outLen (s : State) (bs : List Bit) : (s.emit bs).outLen = s.outLen := rfl
@[simp] theorem State.emit_inp (s : State) (bs : List Bit) : (s.emit bs).inp = s.inp := rfl
@[simp] theorem State.emit_out (s : State) (bs : List Bit) : (s.emit bs).out = s.out := rfl
@[simp] theorem State.emit_n (s : State) (bs : List Bit) : (s.emit bs).n = s.n := rfl
@[simp] theorem State.emit_p (s : State) (bs : List Bit) : (s.emit bs).p = s.p := rfl
@[simp] theorem State.emit_ti (s : State) (bs : List Bit) : (s.emit bs).ti = s.ti := rfl
@[simp] theorem State.emit_ri (s : State) (bs : List Bit) : (s.emit bs).ri = s.ri := rfl
@[simp] theorem State.emit_ci (s : State) (bs : List Bit) : (s.emit bs).ci = s.ci := rfl
@[simp] theorem State.emit_tok (s : State) (bs : List Bit) : (s.emit bs).tok = s.tok := rfl
@[simp] theorem State.emit_llf (s : State) (bs : List Bit) : (s.emit bs).llf = s.llf := rfl
@[simp] theorem State.emit_ddf (s : State) (bs : List Bit) : (s.emit bs).ddf = s.ddf := rfl
@[simp] theorem State.emit_clf (s : State) (bs : List Bit) : (s.emit bs).clf = s.clf := rfl
@[simp] theorem State.emit_node (s : State) (bs : List Bit) : (s.emit bs).node = s.node := rfl
@[simp] theorem State.emit_live (s : State) (bs : List Bit) : (s.emit bs).live = s.live := rfl
@[simp] theorem State.emit_u (s : State) (bs : List Bit) : (s.emit bs).u = s.u := rfl
@[simp] theorem State.emit_lllen (s : State) (bs : List Bit) : (s.emit bs).lllen = s.lllen := rfl
@[simp] theorem State.emit_ddlen (s : State) (bs : List Bit) : (s.emit bs).ddlen = s.ddlen := rfl
@[simp] theorem State.emit_cllen (s : State) (bs : List Bit) : (s.emit bs).cllen = s.cllen := rfl
@[simp] theorem State.emit_llcode (s : State) (bs : List Bit) : (s.emit bs).llcode = s.llcode := rfl
@[simp] theorem State.emit_ddcode (s : State) (bs : List Bit) : (s.emit bs).ddcode = s.ddcode := rfl
@[simp] theorem State.emit_clcode (s : State) (bs : List Bit) : (s.emit bs).clcode = s.clcode := rfl
@[simp] theorem State.emit_hlit (s : State) (bs : List Bit) : (s.emit bs).hlit = s.hlit := rfl
@[simp] theorem State.emit_hdist (s : State) (bs : List Bit) : (s.emit bs).hdist = s.hdist := rfl
@[simp] theorem State.emit_hclen (s : State) (bs : List Bit) : (s.emit bs).hclen = s.hclen := rfl
@[simp] theorem State.emit_rle (s : State) (bs : List Bit) : (s.emit bs).rle = s.rle := rfl
@[simp] theorem State.emit_bits (s : State) (bs : List Bit) : (s.emit bs).bits = s.bits ++ bs := rfl
@[simp] theorem State.emit_lenRes (s : State) (bs : List Bit) : (s.emit bs).lenRes = s.lenRes := rfl
@[simp] theorem State.emit_distRes (s : State) (bs : List Bit) : (s.emit bs).distRes = s.distRes := rfl
@[simp] theorem State.emit_best (s : State) (bs : List Bit) : (s.emit bs).best = s.best := rfl
@[simp] theorem State.emit_opq (s : State) (bs : List Bit) : (s.emit bs).opq = s.opq := rfl
@[simp] theorem State.emit_hostQ (s : State) (bs : List Bit) : (s.emit bs).hostQ = s.hostQ := rfl
@[simp] theorem State.emit_hostData (s : State) (bs : List Bit) : (s.emit bs).hostData = s.hostData := rfl
@[simp] theorem State.emit_epoch (s : State) (bs : List Bit) : (s.emit bs).epoch = s.epoch := rfl
@[simp] theorem State.emit_fresh (s : State) (bs : List Bit) : (s.emit bs).fresh = s.fresh := rfl

/-! ### errorEntry -/

@[simp] theorem State.errorEntry_busy (s : State) (e : ErrCode) : (s.errorEntry e).busy = false := rfl
@[simp] theorem State.errorEntry_done (s : State) (e : ErrCode) : (s.errorEntry e).done = false := rfl
@[simp] theorem State.errorEntry_err (s : State) (e : ErrCode) : (s.errorEntry e).err = true := rfl
@[simp] theorem State.errorEntry_phase (s : State) (e : ErrCode) : (s.errorEntry e).phase = .error := rfl
@[simp] theorem State.errorEntry_errcode (s : State) (e : ErrCode) : (s.errorEntry e).errcode = e := rfl
@[simp] theorem State.errorEntry_inLen (s : State) (e : ErrCode) : (s.errorEntry e).inLen = s.inLen := rfl
@[simp] theorem State.errorEntry_outLen (s : State) (e : ErrCode) : (s.errorEntry e).outLen = 0 := rfl
@[simp] theorem State.errorEntry_inp (s : State) (e : ErrCode) : (s.errorEntry e).inp = s.inp := rfl
@[simp] theorem State.errorEntry_out (s : State) (e : ErrCode) : (s.errorEntry e).out = s.out := rfl
@[simp] theorem State.errorEntry_n (s : State) (e : ErrCode) : (s.errorEntry e).n = s.n := rfl
@[simp] theorem State.errorEntry_p (s : State) (e : ErrCode) : (s.errorEntry e).p = s.p := rfl
@[simp] theorem State.errorEntry_ti (s : State) (e : ErrCode) : (s.errorEntry e).ti = s.ti := rfl
@[simp] theorem State.errorEntry_ri (s : State) (e : ErrCode) : (s.errorEntry e).ri = s.ri := rfl
@[simp] theorem State.errorEntry_ci (s : State) (e : ErrCode) : (s.errorEntry e).ci = s.ci := rfl
@[simp] theorem State.errorEntry_tok (s : State) (e : ErrCode) : (s.errorEntry e).tok = s.tok := rfl
@[simp] theorem State.errorEntry_llf (s : State) (e : ErrCode) : (s.errorEntry e).llf = s.llf := rfl
@[simp] theorem State.errorEntry_ddf (s : State) (e : ErrCode) : (s.errorEntry e).ddf = s.ddf := rfl
@[simp] theorem State.errorEntry_clf (s : State) (e : ErrCode) : (s.errorEntry e).clf = s.clf := rfl
@[simp] theorem State.errorEntry_node (s : State) (e : ErrCode) : (s.errorEntry e).node = s.node := rfl
@[simp] theorem State.errorEntry_live (s : State) (e : ErrCode) : (s.errorEntry e).live = s.live := rfl
@[simp] theorem State.errorEntry_u (s : State) (e : ErrCode) : (s.errorEntry e).u = s.u := rfl
@[simp] theorem State.errorEntry_lllen (s : State) (e : ErrCode) : (s.errorEntry e).lllen = s.lllen := rfl
@[simp] theorem State.errorEntry_ddlen (s : State) (e : ErrCode) : (s.errorEntry e).ddlen = s.ddlen := rfl
@[simp] theorem State.errorEntry_cllen (s : State) (e : ErrCode) : (s.errorEntry e).cllen = s.cllen := rfl
@[simp] theorem State.errorEntry_llcode (s : State) (e : ErrCode) : (s.errorEntry e).llcode = s.llcode := rfl
@[simp] theorem State.errorEntry_ddcode (s : State) (e : ErrCode) : (s.errorEntry e).ddcode = s.ddcode := rfl
@[simp] theorem State.errorEntry_clcode (s : State) (e : ErrCode) : (s.errorEntry e).clcode = s.clcode := rfl
@[simp] theorem State.errorEntry_hlit (s : State) (e : ErrCode) : (s.errorEntry e).hlit = s.hlit := rfl
@[simp] theorem State.errorEntry_hdist (s : State) (e : ErrCode) : (s.errorEntry e).hdist = s.hdist := rfl
@[simp] theorem State.errorEntry_hclen (s : State) (e : ErrCode) : (s.errorEntry e).hclen = s.hclen := rfl
@[simp] theorem State.errorEntry_rle (s : State) (e : ErrCode) : (s.errorEntry e).rle = s.rle := rfl
@[simp] theorem State.errorEntry_bits (s : State) (e : ErrCode) : (s.errorEntry e).bits = s.bits := rfl
@[simp] theorem State.errorEntry_lenRes (s : State) (e : ErrCode) : (s.errorEntry e).lenRes = s.lenRes := rfl
@[simp] theorem State.errorEntry_distRes (s : State) (e : ErrCode) : (s.errorEntry e).distRes = s.distRes := rfl
@[simp] theorem State.errorEntry_best (s : State) (e : ErrCode) : (s.errorEntry e).best = s.best := rfl
@[simp] theorem State.errorEntry_opq (s : State) (e : ErrCode) : (s.errorEntry e).opq = [] := rfl
@[simp] theorem State.errorEntry_hostQ (s : State) (e : ErrCode) : (s.errorEntry e).hostQ = s.hostQ := rfl
@[simp] theorem State.errorEntry_hostData (s : State) (e : ErrCode) : (s.errorEntry e).hostData = s.hostData := rfl
@[simp] theorem State.errorEntry_epoch (s : State) (e : ErrCode) : (s.errorEntry e).epoch = s.epoch := rfl
@[simp] theorem State.errorEntry_fresh (s : State) (e : ErrCode) : (s.errorEntry e).fresh = s.fresh := rfl

/-! ### complete -/

@[simp] theorem State.complete_busy (s : State) : s.complete.busy = false := rfl
@[simp] theorem State.complete_done (s : State) : s.complete.done = true := rfl
@[simp] theorem State.complete_err (s : State) : s.complete.err = s.err := rfl
@[simp] theorem State.complete_phase (s : State) : s.complete.phase = .done := rfl
@[simp] theorem State.complete_errcode (s : State) : s.complete.errcode = s.errcode := rfl
@[simp] theorem State.complete_inLen (s : State) : s.complete.inLen = s.inLen := rfl
@[simp] theorem State.complete_outLen (s : State) : s.complete.outLen = s.outLen := rfl
@[simp] theorem State.complete_inp (s : State) : s.complete.inp = s.inp := rfl
@[simp] theorem State.complete_out (s : State) : s.complete.out = s.out := rfl
@[simp] theorem State.complete_n (s : State) : s.complete.n = s.n := rfl
@[simp] theorem State.complete_p (s : State) : s.complete.p = s.p := rfl
@[simp] theorem State.complete_ti (s : State) : s.complete.ti = s.ti := rfl
@[simp] theorem State.complete_ri (s : State) : s.complete.ri = s.ri := rfl
@[simp] theorem State.complete_ci (s : State) : s.complete.ci = s.ci := rfl
@[simp] theorem State.complete_tok (s : State) : s.complete.tok = s.tok := rfl
@[simp] theorem State.complete_llf (s : State) : s.complete.llf = s.llf := rfl
@[simp] theorem State.complete_ddf (s : State) : s.complete.ddf = s.ddf := rfl
@[simp] theorem State.complete_clf (s : State) : s.complete.clf = s.clf := rfl
@[simp] theorem State.complete_node (s : State) : s.complete.node = s.node := rfl
@[simp] theorem State.complete_live (s : State) : s.complete.live = s.live := rfl
@[simp] theorem State.complete_u (s : State) : s.complete.u = s.u := rfl
@[simp] theorem State.complete_lllen (s : State) : s.complete.lllen = s.lllen := rfl
@[simp] theorem State.complete_ddlen (s : State) : s.complete.ddlen = s.ddlen := rfl
@[simp] theorem State.complete_cllen (s : State) : s.complete.cllen = s.cllen := rfl
@[simp] theorem State.complete_llcode (s : State) : s.complete.llcode = s.llcode := rfl
@[simp] theorem State.complete_ddcode (s : State) : s.complete.ddcode = s.ddcode := rfl
@[simp] theorem State.complete_clcode (s : State) : s.complete.clcode = s.clcode := rfl
@[simp] theorem State.complete_hlit (s : State) : s.complete.hlit = s.hlit := rfl
@[simp] theorem State.complete_hdist (s : State) : s.complete.hdist = s.hdist := rfl
@[simp] theorem State.complete_hclen (s : State) : s.complete.hclen = s.hclen := rfl
@[simp] theorem State.complete_rle (s : State) : s.complete.rle = s.rle := rfl
@[simp] theorem State.complete_bits (s : State) : s.complete.bits = s.bits := rfl
@[simp] theorem State.complete_lenRes (s : State) : s.complete.lenRes = s.lenRes := rfl
@[simp] theorem State.complete_distRes (s : State) : s.complete.distRes = s.distRes := rfl
@[simp] theorem State.complete_best (s : State) : s.complete.best = s.best := rfl
@[simp] theorem State.complete_opq (s : State) : s.complete.opq = [] := rfl
@[simp] theorem State.complete_hostQ (s : State) : s.complete.hostQ = s.hostQ := rfl
@[simp] theorem State.complete_hostData (s : State) : s.complete.hostData = s.hostData := rfl
@[simp] theorem State.complete_epoch (s : State) : s.complete.epoch = s.epoch := rfl
@[simp] theorem State.complete_fresh (s : State) : s.complete.fresh = s.fresh := rfl

/-! ### enter -/

@[simp] theorem State.enter_busy (s : State) (ph : Phase) : (s.enter ph).busy = s.busy := rfl
@[simp] theorem State.enter_done (s : State) (ph : Phase) : (s.enter ph).done = s.done := rfl
@[simp] theorem State.enter_err (s : State) (ph : Phase) : (s.enter ph).err = s.err := rfl
@[simp] theorem State.enter_phase (s : State) (ph : Phase) : (s.enter ph).phase = ph := rfl
@[simp] theorem State.enter_errcode (s : State) (ph : Phase) : (s.enter ph).errcode = s.errcode := rfl
@[simp] theorem State.enter_inLen (s : State) (ph : Phase) : (s.enter ph).inLen = s.inLen := rfl
@[simp] theorem State.enter_outLen (s : State) (ph : Phase) : (s.enter ph).outLen = s.outLen := rfl
@[simp] theorem State.enter_inp (s : State) (ph : Phase) : (s.enter ph).inp = s.inp := rfl
@[simp] theorem State.enter_out (s : State) (ph : Phase) : (s.enter ph).out = s.out := rfl
@[simp] theorem State.enter_n (s : State) (ph : Phase) : (s.enter ph).n = s.n := rfl
@[simp] theorem State.enter_p (s : State) (ph : Phase) : (s.enter ph).p = s.p := rfl
@[simp] theorem State.enter_ti (s : State) (ph : Phase) : (s.enter ph).ti = s.ti := rfl
@[simp] theorem State.enter_ri (s : State) (ph : Phase) : (s.enter ph).ri = s.ri := rfl
@[simp] theorem State.enter_ci (s : State) (ph : Phase) : (s.enter ph).ci = s.ci := rfl
@[simp] theorem State.enter_tok (s : State) (ph : Phase) : (s.enter ph).tok = s.tok := rfl
@[simp] theorem State.enter_llf (s : State) (ph : Phase) : (s.enter ph).llf = s.llf := rfl
@[simp] theorem State.enter_ddf (s : State) (ph : Phase) : (s.enter ph).ddf = s.ddf := rfl
@[simp] theorem State.enter_clf (s : State) (ph : Phase) : (s.enter ph).clf = s.clf := rfl
@[simp] theorem State.enter_node (s : State) (ph : Phase) : (s.enter ph).node = s.node := rfl
@[simp] theorem State.enter_live (s : State) (ph : Phase) : (s.enter ph).live = s.live := rfl
@[simp] theorem State.enter_u (s : State) (ph : Phase) : (s.enter ph).u = s.u := rfl
@[simp] theorem State.enter_lllen (s : State) (ph : Phase) : (s.enter ph).lllen = s.lllen := rfl
@[simp] theorem State.enter_ddlen (s : State) (ph : Phase) : (s.enter ph).ddlen = s.ddlen := rfl
@[simp] theorem State.enter_cllen (s : State) (ph : Phase) : (s.enter ph).cllen = s.cllen := rfl
@[simp] theorem State.enter_llcode (s : State) (ph : Phase) : (s.enter ph).llcode = s.llcode := rfl
@[simp] theorem State.enter_ddcode (s : State) (ph : Phase) : (s.enter ph).ddcode = s.ddcode := rfl
@[simp] theorem State.enter_clcode (s : State) (ph : Phase) : (s.enter ph).clcode = s.clcode := rfl
@[simp] theorem State.enter_hlit (s : State) (ph : Phase) : (s.enter ph).hlit = s.hlit := rfl
@[simp] theorem State.enter_hdist (s : State) (ph : Phase) : (s.enter ph).hdist = s.hdist := rfl
@[simp] theorem State.enter_hclen (s : State) (ph : Phase) : (s.enter ph).hclen = s.hclen := rfl
@[simp] theorem State.enter_rle (s : State) (ph : Phase) : (s.enter ph).rle = s.rle := rfl
@[simp] theorem State.enter_bits (s : State) (ph : Phase) : (s.enter ph).bits = s.bits := rfl
@[simp] theorem State.enter_lenRes (s : State) (ph : Phase) : (s.enter ph).lenRes = s.lenRes := rfl
@[simp] theorem State.enter_distRes (s : State) (ph : Phase) : (s.enter ph).distRes = s.distRes := rfl
@[simp] theorem State.enter_best (s : State) (ph : Phase) : (s.enter ph).best = s.best := rfl
@[simp] theorem State.enter_opq (s : State) (ph : Phase) : (s.enter ph).opq = (phaseOps ph).map encode := rfl
@[simp] theorem State.enter_hostQ (s : State) (ph : Phase) : (s.enter ph).hostQ = s.hostQ := rfl
@[simp] theorem State.enter_hostData (s : State) (ph : Phase) : (s.enter ph).hostData = s.hostData := rfl
@[simp] theorem State.enter_epoch (s : State) (ph : Phase) : (s.enter ph).epoch = s.epoch := rfl
@[simp] theorem State.enter_fresh (s : State) (ph : Phase) : (s.enter ph).fresh = s.fresh := rfl

/-! ### setLens -/

@[simp] theorem State.setLens_busy (s : State) (a : Alphabet) (v : List Nat) : (s.setLens a v).busy = s.busy := by cases a <;> rfl
@[simp] theorem State.setLens_done (s : State) (a : Alphabet) (v : List Nat) : (s.setLens a v).done = s.done := by cases a <;> rfl
@[simp] theorem State.setLens_err (s : State) (a : Alphabet) (v : List Nat) : (s.setLens a v).err = s.err := by cases a <;> rfl
@[simp] theorem State.setLens_phase (s : State) (a : Alphabet) (v : List Nat) : (s.setLens a v).phase = s.phase := by cases a <;> rfl
@[simp] theorem State.setLens_errcode (s : State) (a : Alphabet) (v : List Nat) : (s.setLens a v).errcode = s.errcode := by cases a <;> rfl
@[simp] theorem State.setLens_inLen (s : State) (a : Alphabet) (v : List Nat) : (s.setLens a v).inLen = s.inLen := by cases a <;> rfl
@[simp] theorem State.setLens_outLen (s : State) (a : Alphabet) (v : List Nat) : (s.setLens a v).outLen = s.outLen := by cases a <;> rfl
@[simp] theorem State.setLens_inp (s : State) (a : Alphabet) (v : List Nat) : (s.setLens a v).inp = s.inp := by cases a <;> rfl
@[simp] theorem State.setLens_out (s : State) (a : Alphabet) (v : List Nat) : (s.setLens a v).out = s.out := by cases a <;> rfl
@[simp] theorem State.setLens_n (s : State) (a : Alphabet) (v : List Nat) : (s.setLens a v).n = s.n := by cases a <;> rfl
@[simp] theorem State.setLens_p (s : State) (a : Alphabet) (v : List Nat) : (s.setLens a v).p = s.p := by cases a <;> rfl
@[simp] theorem State.setLens_ti (s : State) (a : Alphabet) (v : List Nat) : (s.setLens a v).ti = s.ti := by cases a <;> rfl
@[simp] theorem State.setLens_ri (s : State) (a : Alphabet) (v : List Nat) : (s.setLens a v).ri = s.ri := by cases a <;> rfl
@[simp] theorem State.setLens_ci (s : State) (a : Alphabet) (v : List Nat) : (s.setLens a v).ci = s.ci := by cases a <;> rfl
@[simp] theorem State.setLens_tok (s : State) (a : Alphabet) (v : List Nat) : (s.setLens a v).tok = s.tok := by cases a <;> rfl
@[simp] theorem State.setLens_llf (s : State) (a : Alphabet) (v : List Nat) : (s.setLens a v).llf = s.llf := by cases a <;> rfl
@[simp] theorem State.setLens_ddf (s : State) (a : Alphabet) (v : List Nat) : (s.setLens a v).ddf = s.ddf := by cases a <;> rfl
@[simp] theorem State.setLens_clf (s : State) (a : Alphabet) (v : List Nat) : (s.setLens a v).clf = s.clf := by cases a <;> rfl
@[simp] theorem State.setLens_node (s : State) (a : Alphabet) (v : List Nat) : (s.setLens a v).node = s.node := by cases a <;> rfl
@[simp] theorem State.setLens_live (s : State) (a : Alphabet) (v : List Nat) : (s.setLens a v).live = s.live := by cases a <;> rfl
@[simp] theorem State.setLens_u (s : State) (a : Alphabet) (v : List Nat) : (s.setLens a v).u = s.u := by cases a <;> rfl
@[simp] theorem State.setLens_llcode (s : State) (a : Alphabet) (v : List Nat) : (s.setLens a v).llcode = s.llcode := by cases a <;> rfl
@[simp] theorem State.setLens_ddcode (s : State) (a : Alphabet) (v : List Nat) : (s.setLens a v).ddcode = s.ddcode := by cases a <;> rfl
@[simp] theorem State.setLens_clcode (s : State) (a : Alphabet) (v : List Nat) : (s.setLens a v).clcode = s.clcode := by cases a <;> rfl
@[simp] theorem State.setLens_hlit (s : State) (a : Alphabet) (v : List Nat) : (s.setLens a v).hlit = s.hlit := by cases a <;> rfl
@[simp] theorem State.setLens_hdist (s : State) (a : Alphabet) (v : List Nat) : (s.setLens a v).hdist = s.hdist := by cases a <;> rfl
@[simp] theorem State.setLens_hclen (s : State) (a : Alphabet) (v : List Nat) : (s.setLens a v).hclen = s.hclen := by cases a <;> rfl
@[simp] theorem State.setLens_rle (s : State) (a : Alphabet) (v : List Nat) : (s.setLens a v).rle = s.rle := by cases a <;> rfl
@[simp] theorem State.setLens_bits (s : State) (a : Alphabet) (v : List Nat) : (s.setLens a v).bits = s.bits := by cases a <;> rfl
@[simp] theorem State.setLens_lenRes (s : State) (a : Alphabet) (v : List Nat) : (s.setLens a v).lenRes = s.lenRes := by cases a <;> rfl
@[simp] theorem State.setLens_distRes (s : State) (a : Alphabet) (v : List Nat) : (s.setLens a v).distRes = s.distRes := by cases a <;> rfl
@[simp] theorem State.setLens_best (s : State) (a : Alphabet) (v : List Nat) : (s.setLens a v).best = s.best := by cases a <;> rfl
@[simp] theorem State.setLens_opq (s : State) (a : Alphabet) (v : List Nat) : (s.setLens a v).opq = s.opq := by cases a <;> rfl
@[simp] theorem State.setLens_hostQ (s : State) (a : Alphabet) (v : List Nat) : (s.setLens a v).hostQ = s.hostQ := by cases a <;> rfl
@[simp] theorem State.setLens_hostData (s : State) (a : Alphabet) (v : List Nat) : (s.setLens a v).hostData = s.hostData := by cases a <;> rfl
@[simp] theorem State.setLens_epoch (s : State) (a : Alphabet) (v : List Nat) : (s.setLens a v).epoch = s.epoch := by cases a <;> rfl
@[simp] theorem State.setLens_fresh (s : State) (a : Alphabet) (v : List Nat) : (s.setLens a v).fresh = s.fresh := by cases a <;> rfl

/-! ### setCodes -/

@[simp] theorem State.setCodes_busy (s : State) (a : Alphabet) (v : List Nat) : (s.setCodes a v).busy = s.busy := by cases a <;> rfl
@[simp] theorem State.setCodes_done (s : State) (a : Alphabet) (v : List Nat) : (s.setCodes a v).done = s.done := by cases a <;> rfl
@[simp] theorem State.setCodes_err (s : State) (a : Alphabet) (v : List Nat) : (s.setCodes a v).err = s.err := by cases a <;> rfl
@[simp] theorem State.setCodes_phase (s : State) (a : Alphabet) (v : List Nat) : (s.setCodes a v).phase = s.phase := by cases a <;> rfl
@[simp] theorem State.setCodes_errcode (s : State) (a : Alphabet) (v : List Nat) : (s.setCodes a v).errcode = s.errcode := by cases a <;> rfl
@[simp] theorem State.setCodes_inLen (s : State) (a : Alphabet) (v : List Nat) : (s.setCodes a v).inLen = s.inLen := by cases a <;> rfl
@[simp] theorem State.setCodes_outLen (s : State) (a : Alphabet) (v : List Nat) : (s.setCodes a v).outLen = s.outLen := by cases a <;> rfl
@[simp] theorem State.setCodes_inp (s : State) (a : Alphabet) (v : List Nat) : (s.setCodes a v).inp = s.inp := by cases a <;> rfl
@[simp] theorem State.setCodes_out (s : State) (a : Alphabet) (v : List Nat) : (s.setCodes a v).out = s.out := by cases a <;> rfl
@[simp] theorem State.setCodes_n (s : State) (a : Alphabet) (v : List Nat) : (s.setCodes a v).n = s.n := by cases a <;> rfl
@[simp] theorem State.setCodes_p (s : State) (a : Alphabet) (v : List Nat) : (s.setCodes a v).p = s.p := by cases a <;> rfl
@[simp] theorem State.setCodes_ti (s : State) (a : Alphabet) (v : List Nat) : (s.setCodes a v).ti = s.ti := by cases a <;> rfl
@[simp] theorem State.setCodes_ri (s : State) (a : Alphabet) (v : List Nat) : (s.setCodes a v).ri = s.ri := by cases a <;> rfl
@[simp] theorem State.setCodes_ci (s : State) (a : Alphabet) (v : List Nat) : (s.setCodes a v).ci = s.ci := by cases a <;> rfl
@[simp] theorem State.setCodes_tok (s : State) (a : Alphabet) (v : List Nat) : (s.setCodes a v).tok = s.tok := by cases a <;> rfl
@[simp] theorem State.setCodes_llf (s : State) (a : Alphabet) (v : List Nat) : (s.setCodes a v).llf = s.llf := by cases a <;> rfl
@[simp] theorem State.setCodes_ddf (s : State) (a : Alphabet) (v : List Nat) : (s.setCodes a v).ddf = s.ddf := by cases a <;> rfl
@[simp] theorem State.setCodes_clf (s : State) (a : Alphabet) (v : List Nat) : (s.setCodes a v).clf = s.clf := by cases a <;> rfl
@[simp] theorem State.setCodes_node (s : State) (a : Alphabet) (v : List Nat) : (s.setCodes a v).node = s.node := by cases a <;> rfl
@[simp] theorem State.setCodes_live (s : State) (a : Alphabet) (v : List Nat) : (s.setCodes a v).live = s.live := by cases a <;> rfl
@[simp] theorem State.setCodes_u (s : State) (a : Alphabet) (v : List Nat) : (s.setCodes a v).u = s.u := by cases a <;> rfl
@[simp] theorem State.setCodes_lllen (s : State) (a : Alphabet) (v : List Nat) : (s.setCodes a v).lllen = s.lllen := by cases a <;> rfl
@[simp] theorem State.setCodes_ddlen (s : State) (a : Alphabet) (v : List Nat) : (s.setCodes a v).ddlen = s.ddlen := by cases a <;> rfl
@[simp] theorem State.setCodes_cllen (s : State) (a : Alphabet) (v : List Nat) : (s.setCodes a v).cllen = s.cllen := by cases a <;> rfl
@[simp] theorem State.setCodes_hlit (s : State) (a : Alphabet) (v : List Nat) : (s.setCodes a v).hlit = s.hlit := by cases a <;> rfl
@[simp] theorem State.setCodes_hdist (s : State) (a : Alphabet) (v : List Nat) : (s.setCodes a v).hdist = s.hdist := by cases a <;> rfl
@[simp] theorem State.setCodes_hclen (s : State) (a : Alphabet) (v : List Nat) : (s.setCodes a v).hclen = s.hclen := by cases a <;> rfl
@[simp] theorem State.setCodes_rle (s : State) (a : Alphabet) (v : List Nat) : (s.setCodes a v).rle = s.rle := by cases a <;> rfl
@[simp] theorem State.setCodes_bits (s : State) (a : Alphabet) (v : List Nat) : (s.setCodes a v).bits = s.bits := by cases a <;> rfl
@[simp] theorem State.setCodes_lenRes (s : State) (a : Alphabet) (v : List Nat) : (s.setCodes a v).lenRes = s.lenRes := by cases a <;> rfl
@[simp] theorem State.setCodes_distRes (s : State) (a : Alphabet) (v : List Nat) : (s.setCodes a v).distRes = s.distRes := by cases a <;> rfl
@[simp] theorem State.setCodes_best (s : State) (a : Alphabet) (v : List Nat) : (s.setCodes a v).best = s.best := by cases a <;> rfl
@[simp] theorem State.setCodes_opq (s : State) (a : Alphabet) (v : List Nat) : (s.setCodes a v).opq = s.opq := by cases a <;> rfl
@[simp] theorem State.setCodes_hostQ (s : State) (a : Alphabet) (v : List Nat) : (s.setCodes a v).hostQ = s.hostQ := by cases a <;> rfl
@[simp] theorem State.setCodes_hostData (s : State) (a : Alphabet) (v : List Nat) : (s.setCodes a v).hostData = s.hostData := by cases a <;> rfl
@[simp] theorem State.setCodes_epoch (s : State) (a : Alphabet) (v : List Nat) : (s.setCodes a v).epoch = s.epoch := by cases a <;> rfl
@[simp] theorem State.setCodes_fresh (s : State) (a : Alphabet) (v : List Nat) : (s.setCodes a v).fresh = s.fresh := by cases a <;> rfl

/-! ### start -/

@[simp] theorem State.start_busy (s : State) : s.start.busy = true := rfl
@[simp] theorem State.start_done (s : State) : s.start.done = false := rfl
@[simp] theorem State.start_err (s : State) : s.start.err = false := rfl
@[simp] theorem State.start_phase (s : State) : s.start.phase = .idle := rfl
@[simp] theorem State.start_errcode (s : State) : s.start.errcode = .none := rfl
@[simp] theorem State.start_inLen (s : State) : s.start.inLen = s.inLen := rfl
@[simp] theorem State.start_outLen (s : State) : s.start.outLen = 0 := rfl
@[simp] theorem State.start_inp (s : State) : s.start.inp = s.inp := rfl
@[simp] theorem State.start_out (s : State) : s.start.out = s.out := rfl
@[simp] theorem State.start_n (s : State) : s.start.n = s.inLen.toNat := rfl
@[simp] theorem State.start_p (s : State) : s.start.p = 0 := rfl
@[simp] theorem State.start_ti (s : State) : s.start.ti = 0 := rfl
@[simp] theorem State.start_ri (s : State) : s.start.ri = 0 := rfl
@[simp] theorem State.start_ci (s : State) : s.start.ci = 0 := rfl
@[simp] theorem State.start_tok (s : State) : s.start.tok = [] := rfl
@[simp] theorem State.start_llf (s : State) : s.start.llf = List.replicate 286 0 := rfl
@[simp] theorem State.start_ddf (s : State) : s.start.ddf = List.replicate 30 0 := rfl
@[simp] theorem State.start_clf (s : State) : s.start.clf = List.replicate 19 0 := rfl
@[simp] theorem State.start_node (s : State) : s.start.node = [] := rfl
@[simp] theorem State.start_live (s : State) : s.start.live = [] := rfl
@[simp] theorem State.start_u (s : State) : s.start.u = [] := rfl
@[simp] theorem State.start_lllen (s : State) : s.start.lllen = List.replicate 286 0 := rfl
@[simp] theorem State.start_ddlen (s : State) : s.start.ddlen = List.replicate 30 0 := rfl
@[simp] theorem State.start_cllen (s : State) : s.start.cllen = List.replicate 19 0 := rfl
@[simp] theorem State.start_llcode (s : State) : s.start.llcode = s.llcode := rfl
@[simp] theorem State.start_ddcode (s : State) : s.start.ddcode = s.ddcode := rfl
@[simp] theorem State.start_clcode (s : State) : s.start.clcode = s.clcode := rfl
@[simp] theorem State.start_hlit (s : State) : s.start.hlit = 0 := rfl
@[simp] theorem State.start_hdist (s : State) : s.start.hdist = 0 := rfl
@[simp] theorem State.start_hclen (s : State) : s.start.hclen = 0 := rfl
@[simp] theorem State.start_rle (s : State) : s.start.rle = [] := rfl
@[simp] theorem State.start_bits (s : State) : s.start.bits = [] := rfl
@[simp] theorem State.start_lenRes (s : State) : s.start.lenRes = Lookup.zero := rfl
@[simp] theorem State.start_distRes (s : State) : s.start.distRes = Lookup.zero := rfl
@[simp] theorem State.start_best (s : State) : s.start.best = none := rfl
@[simp] theorem State.start_opq (s : State) : s.start.opq = [] := rfl
@[simp] theorem State.start_hostQ (s : State) : s.start.hostQ = s.hostQ := rfl
@[simp] theorem State.start_hostData (s : State) : s.start.hostData = s.hostData := rfl
@[simp] theorem State.start_epoch (s : State) : s.start.epoch = s.epoch := rfl
@[simp] theorem State.start_fresh (s : State) : s.start.fresh = s.fresh := rfl

/-! ### Register files by alphabet -/

@[simp] theorem State.lens_setLens (s : State) (a : Alphabet) (v : List Nat) : (s.setLens a v).lens a = v := by
  cases a <;> rfl

theorem State.lens_setLens_ne (s : State) {a b : Alphabet} (v : List Nat) (h : b ≠ a) :
    (s.setLens a v).lens b = s.lens b := by
  cases a <;> cases b <;> first | rfl | exact absurd rfl h

@[simp] theorem State.codes_setCodes (s : State) (a : Alphabet) (v : List Nat) : (s.setCodes a v).codes a = v := by
  cases a <;> rfl

theorem State.codes_setCodes_ne (s : State) {a b : Alphabet} (v : List Nat) (h : b ≠ a) :
    (s.setCodes a v).codes b = s.codes b := by
  cases a <;> cases b <;> first | rfl | exact absurd rfl h

@[simp] theorem State.lens_setCodes (s : State) (a b : Alphabet) (v : List Nat) : (s.setCodes a v).lens b = s.lens b := by
  cases a <;> cases b <;> rfl

@[simp] theorem State.codes_setLens (s : State) (a b : Alphabet) (v : List Nat) : (s.setLens a v).codes b = s.codes b := by
  cases a <;> cases b <;> rfl

@[simp] theorem State.freq_setLens (s : State) (a b : Alphabet) (v : List Nat) : (s.setLens a v).freq b = s.freq b := by
  cases a <;> cases b <;> rfl

@[simp] theorem State.freq_setCodes (s : State) (a b : Alphabet) (v : List Nat) : (s.setCodes a v).freq b = s.freq b := by
  cases a <;> cases b <;> rfl

@[simp] theorem State.emit_lens (s : State) (bs : List Bit) (a : Alphabet) : (s.emit bs).lens a = s.lens a := by
  cases a <;> rfl

@[simp] theorem State.emit_codes (s : State) (bs : List Bit) (a : Alphabet) : (s.emit bs).codes a = s.codes a := by
  cases a <;> rfl

@[simp] theorem State.emit_nil (s : State) : s.emit [] = s := by
  simp [State.emit]

@[simp] theorem State.emit_emit (s : State) (xs ys : List Bit) : (s.emit xs).emit ys = s.emit (xs ++ ys) := by
  simp [State.emit]

end Sys2Proof.Machine
end

