-- ==== Sys2Proof/Laws/Result.lean ====
section
/-! SUPPORT. How operations compose and end, and one lemma per shared operation of the BlockWriter that says
everything it can do. -/

namespace Sys2Proof.Machine

@[simp] theorem andThen_ok (s : State) (f : State → Result) : andThen (.ok s) f = f s := rfl

@[simp] theorem andThen_error (e : Stop) (f : State → Result) : andThen (.error e) f = .error e := rfl

@[simp] theorem andThen_raise (c : ErrCode) (s : State) (f : State → Result) : andThen (raise c s) f = raise c s := rfl

theorem andThen_assoc (r : Result) (f g : State → Result) :
    andThen (andThen r f) g = andThen r fun s => andThen (f s) g := by
  cases r <;> rfl

/-- A composition answers only if both parts do. -/
theorem andThen_eq_ok {r : Result} {f : State → Result} {t : State} :
    andThen r f = .ok t ↔ ∃ s, r = .ok s ∧ f s = .ok t := by
  cases r <;> simp [andThen]

@[simp] theorem finish_ok (s : State) : finish (.ok s) = .next s := rfl

@[simp] theorem finish_raise (c : ErrCode) (s : State) : finish (raise c s) = .next (s.errorEntry c) := rfl

@[simp] theorem finish_fault (f : Fault) : finish (.error (.fault f)) = .fault f := rfl

/-- An instruction's next state is the operation's answer, or the state after error entry. -/
theorem finish_eq_next {r : Result} {t : State} :
    finish r = .next t ↔ r = .ok t ∨ r = .error (.raised t) := by
  rcases r with (e | f) | s <;> simp [finish]

theorem writeSymbol_coded (a : Alphabet) (x : Nat) (s : State) (h : (s.lens a).getD x 0 ≠ 0) :
    writeSymbol a x s = .ok (s.emit (msbBits ((s.codes a).getD x 0) ((s.lens a).getD x 0))) := by
  simp only [writeSymbol, h, if_false, opAppendBitsMsb]

theorem writeSymbol_uncoded (a : Alphabet) (x : Nat) (s : State) (h : (s.lens a).getD x 0 = 0) :
    writeSymbol a x s = raise .internal s := by
  simp only [writeSymbol, h, if_true]

theorem writeCoded_coded (a : Alphabet) (x v n : Nat) (s : State) (h : (s.lens a).getD x 0 ≠ 0) :
    writeCoded a x v n s =
      .ok (s.emit (msbBits ((s.codes a).getD x 0) ((s.lens a).getD x 0) ++ lsbBits v n)) := by
  simp [writeCoded, writeSymbol_coded a x s h, opAppendBitsLsb]

theorem writeCoded_uncoded (a : Alphabet) (x v n : Nat) (s : State) (h : (s.lens a).getD x 0 = 0) :
    writeCoded a x v n s = raise .internal s := by
  simp [writeCoded, writeSymbol_uncoded a x s h]

theorem writeField_inRange (v w top : Nat) (s : State) (h : v ≤ top) :
    writeField v w top s = .ok (s.emit (lsbBits v w)) := by
  simp [writeField, h, opAppendBitsLsb]

@[simp] theorem length_lsbBits (v n : Nat) : (lsbBits v n).length = n := by
  simp [lsbBits]

@[simp] theorem length_msbBits (v n : Nat) : (msbBits v n).length = n := by
  induction n with
  | zero => rfl
  | succ n ih => simp [msbBits, ih]

@[simp] theorem lsbBits_zero (v : Nat) : lsbBits v 0 = [] := rfl

@[simp] theorem length_fit (k : Nat) (v : List Nat) : (fit k v).length = k := by
  simp [fit]

@[simp] theorem length_bump (t : List Nat) (i : Nat) : (bump t i).length = t.length := by
  simp [bump]

end Sys2Proof.Machine
end

