-- ==== Sys2Proof/Tests/Slice0.lean ====
section
/-! SUPPORT. The model's own tests. Expected results come from the spec: the OPIDs of R83, the element rows of the
table, the examples of the rules and the vectors of 95_test_vectors.md and 96_derived_vectors.md. -/

set_option Elab.async false

namespace Sys2Proof.Tests

open Sys2Proof.Machine

/-! ## Helpers -/

/-- Bits in stream order. -/
def bits (l : List Nat) : List Bit := l.map (· == 1)

/-- What a projection of the next state is. -/
def after {α : Type} (i : Instr) (s : State) (f : State → α) : Option α :=
  match exec i s with
  | .next t => some (f t)
  | _ => none

/-- A table of `size` entries with the given ones. -/
def table (size : Nat) (l : List (Nat × Nat)) : List Nat := l.foldl (fun T e => T.set e.1 e.2) (List.replicate size 0)

/-- The non-zero entries of a table. -/
def entries (T : List Nat) : List (Nat × Nat) := (T.zipIdx.filter fun e => decide (0 < e.1)).map fun e => (e.2, e.1)

/-- A block holding an input, ready for LZ77. -/
def holding (X : List Nat) : State :=
  { State.reset with n := X.length, inp := X.zipIdx.map fun e => (e.2, BitVec.ofNat 8 e.1) }

/-- The element read, with the bits after it. -/
def reads (p : Position) (k : CodeBook) (bs : List Bit) : Option (Instr × List Bit) :=
  match decodeElement p k bs with
  | .ok r => some r
  | .error _ => none

/-- Why nothing is read. -/
def refuses (p : Position) (k : CodeBook) (bs : List Bit) : Option StreamError :=
  match decodeElement p k bs with
  | .ok _ => none
  | .error e => some e

/-- Why a word is no instruction. -/
def refusesWord (w : OpWord) : Option DecodeError :=
  match decode w with
  | .ok _ => none
  | .error e => some e

/-- A code book in which one symbol of one alphabet has the code '10'. -/
def oneCode (a : Alphabet) (x : Nat) : CodeBook :=
  match a with
  | .ll => ⟨table 286 [(x, 2)], table 286 [(x, 2)], [], [], [], []⟩
  | .dd => ⟨[], [], table 30 [(x, 2)], table 30 [(x, 2)], [], []⟩
  | .cl => ⟨[], [], [], [], table 19 [(x, 2)], table 19 [(x, 2)]⟩

/-! ## WellFormed: one ill-formed term for each check -/

theorem test_wf_refuses : [Instr.appendBitsLsb 65536 1, .appendBitsLsb 0 17, .appendBitsMsb 65536 1,
    .appendBitsMsb 0 17, .lengthLookup 2, .lengthLookup 259, .distLookup 0, .distLookup 32769, .writeMatch 2 1,
    .writeMatch 259 1, .writeMatch 3 0, .writeMatch 3 32769, .hlit 30, .hdist 31, .len284 31].all
    (fun i => !i.wf) = true := by decide

theorem test_wf_accepts : [Instr.appendBitsLsb 65535 16, .appendBitsMsb 0 0, .lengthLookup 258, .distLookup 32768,
    .writeMatch 258 32768, .hlit 29, .hdist 29, .len284 30, .hclen 15].all (fun i => i.wf) = true := by decide

/-! ## Decode: the operations, by OPID (R83) -/

theorem test_opids_0 :
    decodeTableWord 32 (0b000001 + 256 * 1) = some (.appendBit true) ∧
    decodeTableWord 32 (0b000010 + 256 * 327682) = some (.appendBitsLsb 2 5) ∧
    decodeTableWord 32 (0b000011 + 256 * 262158) = some (.appendBitsMsb 14 4) ∧
    decodeTableWord 8 0b000100 = some .finalize ∧
    decodeTableWord 32 (0b001000 + 256 * 9) = some (.lengthLookup 12) ∧
    decodeTableWord 32 (0b001001 + 256 * 32767) = some (.distLookup 32768) ∧
    decodeTableWord 8 0b010000 = some .lzSearch ∧
    decodeTableWord 8 0b010001 = some .lzStep ∧
    decodeTableWord 8 0b010010 = some .lz77 ∧
    decodeTableWord 8 0b011000 = some .tally := by decide

theorem test_opids_1 :
    decodeTableWord 32 (0b100000 + 256 * 0) = some (.huffLeaves .ll) ∧
    decodeTableWord 8 0b100001 = some .huffMerge ∧
    decodeTableWord 32 (0b100010 + 256 * 1) = some (.huffExtract .dd) ∧
    decodeTableWord 32 (0b100011 + 256 * 2) = some (.huffLimit .cl) ∧
    decodeTableWord 32 (0b100100 + 256 * 1) = some (.huffCanon .dd) ∧
    decodeTableWord 32 (0b100101 + 256 * 2) = some (.huffBuild .cl) ∧
    decodeTableWord 8 0b101000 = some .clRle ∧
    decodeTableWord 8 0b101001 = some .clTally ∧
    decodeTableWord 8 0b110000 = some .sizeHlit ∧
    decodeTableWord 8 0b110001 = some .sizeHdist := by decide

theorem test_opids_2 :
    decodeTableWord 8 0b110010 = some .sizeHclen ∧
    decodeTableWord 8 0b110011 = some .writeHeader ∧
    decodeTableWord 8 0b110100 = some .writeCllens ∧
    decodeTableWord 8 0b110101 = some .writeRle ∧
    decodeTableWord 32 (0b110110 + 256 * 79) = some (.writeLiteral 79) ∧
    decodeTableWord 32 (0b110111 + 256 * 8355846) = some (.writeMatch 258 7) ∧
    decodeTableWord 8 0b111000 = some .writeTokens ∧
    decodeTableWord 8 0b111001 = some .writeEob ∧
    decodeTableWord 8 0b111111 = some .compress := by decide

/-- A word that is no instruction is refused by name. -/
theorem test_decode_refuses :
    refusesWord 0x05 = some .unassignedOpid ∧ refusesWord 0x00 = some .unassignedOpid ∧
    refusesWord 0x97 = some .unassignedSelector ∧ refusesWord 0x0104 = some .reservedBits ∧
    refusesWord 0x0320 = some .badAlphabet ∧ refusesWord 0x11000002 = some .badCount ∧
    refusesWord 0x1E42 = some .neverEmitted ∧ refusesWord 0x1F76 = some .neverEmitted := by decide

/-! ## Decode: the elements, as the table's rows write them (h+ is '10', x is 1 followed by zeros) -/

/-- Alphabet, symbol, extra bits as they stand in the stream, element. -/
def elements0 : List (Alphabet × Nat × List Nat × Instr) :=
  [(.cl, 0, [], .cl0), (.cl, 1, [], .cl1), (.cl, 2, [], .cl2),
   (.cl, 3, [], .cl3), (.cl, 4, [], .cl4), (.cl, 5, [], .cl5),
   (.cl, 6, [], .cl6), (.cl, 7, [], .cl7), (.cl, 8, [], .cl8),
   (.cl, 9, [], .cl9), (.cl, 10, [], .cl10), (.cl, 11, [], .cl11),
   (.cl, 12, [], .cl12), (.cl, 13, [], .cl13), (.cl, 14, [], .cl14),
   (.cl, 15, [], .cl15), (.cl, 16, [1, 0], .cl16 1), (.cl, 17, [1, 0, 0], .cl17 1),
   (.cl, 18, [1, 0, 0, 0, 0, 0, 0], .cl18 1), (.ll, 79, [], .literal 79)]

/-- Alphabet, symbol, extra bits as they stand in the stream, element. -/
def elements1 : List (Alphabet × Nat × List Nat × Instr) :=
  [(.ll, 256, [], .eob), (.ll, 257, [], .len257), (.ll, 258, [], .len258),
   (.ll, 259, [], .len259), (.ll, 260, [], .len260), (.ll, 261, [], .len261),
   (.ll, 262, [], .len262), (.ll, 263, [], .len263), (.ll, 264, [], .len264),
   (.ll, 265, [1], .len265 1), (.ll, 266, [1], .len266 1), (.ll, 267, [1], .len267 1),
   (.ll, 268, [1], .len268 1), (.ll, 269, [1, 0], .len269 1), (.ll, 270, [1, 0], .len270 1),
   (.ll, 271, [1, 0], .len271 1), (.ll, 272, [1, 0], .len272 1), (.ll, 273, [1, 0, 0], .len273 1),
   (.ll, 274, [1, 0, 0], .len274 1), (.ll, 275, [1, 0, 0], .len275 1)]

/-- Alphabet, symbol, extra bits as they stand in the stream, element. -/
def elements2 : List (Alphabet × Nat × List Nat × Instr) :=
  [(.ll, 276, [1, 0, 0], .len276 1), (.ll, 277, [1, 0, 0, 0], .len277 1), (.ll, 278, [1, 0, 0, 0], .len278 1),
   (.ll, 279, [1, 0, 0, 0], .len279 1), (.ll, 280, [1, 0, 0, 0], .len280 1), (.ll, 281, [1, 0, 0, 0, 0], .len281 1),
   (.ll, 282, [1, 0, 0, 0, 0], .len282 1), (.ll, 283, [1, 0, 0, 0, 0], .len283 1), (.ll, 284, [1, 0, 0, 0, 0], .len284 1),
   (.ll, 285, [], .len285), (.dd, 0, [], .dist0), (.dd, 1, [], .dist1),
   (.dd, 2, [], .dist2), (.dd, 3, [], .dist3), (.dd, 4, [1], .dist4 1),
   (.dd, 5, [1], .dist5 1), (.dd, 6, [1, 0], .dist6 1), (.dd, 7, [1, 0], .dist7 1),
   (.dd, 8, [1, 0, 0], .dist8 1), (.dd, 9, [1, 0, 0], .dist9 1)]

/-- Alphabet, symbol, extra bits as they stand in the stream, element. -/
def elements3 : List (Alphabet × Nat × List Nat × Instr) :=
  [(.dd, 10, [1, 0, 0, 0], .dist10 1), (.dd, 11, [1, 0, 0, 0], .dist11 1), (.dd, 12, [1, 0, 0, 0, 0], .dist12 1),
   (.dd, 13, [1, 0, 0, 0, 0], .dist13 1), (.dd, 14, [1, 0, 0, 0, 0, 0], .dist14 1), (.dd, 15, [1, 0, 0, 0, 0, 0], .dist15 1),
   (.dd, 16, [1, 0, 0, 0, 0, 0, 0], .dist16 1), (.dd, 17, [1, 0, 0, 0, 0, 0, 0], .dist17 1), (.dd, 18, [1, 0, 0, 0, 0, 0, 0, 0], .dist18 1),
   (.dd, 19, [1, 0, 0, 0, 0, 0, 0, 0], .dist19 1), (.dd, 20, [1, 0, 0, 0, 0, 0, 0, 0, 0], .dist20 1), (.dd, 21, [1, 0, 0, 0, 0, 0, 0, 0, 0], .dist21 1),
   (.dd, 22, [1, 0, 0, 0, 0, 0, 0, 0, 0, 0], .dist22 1), (.dd, 23, [1, 0, 0, 0, 0, 0, 0, 0, 0, 0], .dist23 1), (.dd, 24, [1, 0, 0, 0, 0, 0, 0, 0, 0, 0, 0], .dist24 1),
   (.dd, 25, [1, 0, 0, 0, 0, 0, 0, 0, 0, 0, 0], .dist25 1), (.dd, 26, [1, 0, 0, 0, 0, 0, 0, 0, 0, 0, 0, 0], .dist26 1), (.dd, 27, [1, 0, 0, 0, 0, 0, 0, 0, 0, 0, 0, 0], .dist27 1),
   (.dd, 28, [1, 0, 0, 0, 0, 0, 0, 0, 0, 0, 0, 0, 0], .dist28 1), (.dd, 29, [1, 0, 0, 0, 0, 0, 0, 0, 0, 0, 0, 0, 0], .dist29 1)]

/-- Where an alphabet's symbols stand (R80). -/
def place : Alphabet → Position
  | .cl => .codeLength
  | .ll => .token
  | .dd => .distance

/-- The element's bits, followed by one more bit, read as the element. -/
def readsAs (e : Alphabet × Nat × List Nat × Instr) : Bool :=
  reads (place e.1) (oneCode e.1 e.2.1) (bits ([1, 0] ++ e.2.2.1 ++ [0])) == some (e.2.2.2, [false])

theorem test_elements0_read : elements0.all readsAs = true := by decide +kernel

theorem test_elements1_read : elements1.all readsAs = true := by decide +kernel

theorem test_elements2_read : elements2.all readsAs = true := by decide +kernel

theorem test_elements3_read : elements3.all readsAs = true := by decide +kernel

/-- The fixed-width fields, LSB-first: `1`, `01`, `aaaaa`, `bbbbb`, `cccc`, `ddd` (R65, R66). -/
theorem test_field_elements :
    reads .bfinal (oneCode .ll 0) (bits [1]) = some (.bfinal, []) ∧
    reads .btype (oneCode .ll 0) (bits [0, 1]) = some (.btype, []) ∧
    reads .hlit (oneCode .ll 0) (bits [1, 0, 1, 0, 0]) = some (.hlit 5, []) ∧
    reads .hdist (oneCode .ll 0) (bits [1, 0, 1, 1, 1]) = some (.hdist 29, []) ∧
    reads .hclen (oneCode .ll 0) (bits [0, 1, 1, 1]) = some (.hclen 14, []) ∧
    reads .cllen (oneCode .ll 0) (bits [0, 0, 1]) = some (.cllenField 4, []) := by decide +kernel

/-- What the block never emits (R81). -/
theorem test_stream_refuses :
    refuses .bfinal (oneCode .ll 0) (bits [0]) = some .neverEmitted ∧
    refuses .btype (oneCode .ll 0) (bits [1, 0]) = some .neverEmitted ∧
    refuses .hlit (oneCode .ll 0) (bits [0, 1, 1, 1, 1]) = some .neverEmitted ∧
    refuses .token (oneCode .ll 284) (bits [1, 0, 1, 1, 1, 1, 1]) = some .neverEmitted ∧
    refuses .token (oneCode .ll 284) (bits [0, 0, 1]) = some .noCode := by decide +kernel

theorem test_pad_bits : padBits 91 = bits [0, 0, 0, 0, 0] ∧ padBits 8 = [] ∧ padBits 0 = [] := by decide

/-! ## BitWriter (V-B) -/

theorem test_appends_V_B2_B8 :
    after (.appendBit true) State.reset (·.bits) = some (bits [1]) ∧
    after (.appendBitsLsb 2 2) State.reset (·.bits) = some (bits [0, 1]) ∧
    after (.appendBitsLsb 65535 3) State.reset (·.bits) = some (bits [1, 1, 1]) ∧
    after (.appendBitsMsb 245 4) State.reset (·.bits) = some (bits [0, 1, 0, 1]) ∧
    after (.appendBitsMsb 6 0) State.reset (·.bits) = some [] := by decide

theorem test_finalize_V_B5 :
    after .finalize { State.reset with bits := bits [1, 0, 1, 0, 0, 0, 0, 0, 0, 0, 1] } (fun t => (t.outBytes, t.outLen)) =
      some ([some 0x05, some 0x04], 2) ∧
    after .finalize State.reset (fun t => (t.out, t.outLen)) = some ([], 0) := by decide +kernel

theorem test_pad_V_B14 :
    after .pad { State.reset with bits := bits [1, 1, 1, 1, 1, 1, 1, 1, 1] } (·.out) = some [(1, 0x01)] ∧
    after .pad { State.reset with bits := bits [1, 1, 1, 1, 1, 1, 1, 1] } (·.out) = some [] := by decide +kernel

/-! ## CodeTables (V-T1, V-T2) -/

theorem test_lengthLookup : [3, 10, 11, 12, 18, 22, 100, 130, 227, 257, 258].map (fun l =>
      after (.lengthLookup l) State.reset (·.lenRes)) =
    [some ⟨257, 0, 0⟩, some ⟨264, 0, 0⟩, some ⟨265, 1, 0⟩, some ⟨265, 1, 1⟩, some ⟨268, 1, 1⟩, some ⟨269, 2, 3⟩,
      some ⟨279, 4, 1⟩, some ⟨280, 4, 15⟩, some ⟨284, 5, 0⟩, some ⟨284, 5, 30⟩, some ⟨285, 0, 0⟩] := by decide +kernel

theorem test_distLookup : [1, 4, 5, 7, 64, 1000, 20000, 24576, 24577, 32768].map (fun d =>
      after (.distLookup d) State.reset (·.distRes)) =
    [some ⟨0, 0, 0⟩, some ⟨3, 0, 0⟩, some ⟨4, 1, 0⟩, some ⟨5, 1, 0⟩, some ⟨11, 4, 15⟩, some ⟨19, 8, 231⟩,
      some ⟨28, 13, 3615⟩, some ⟨28, 13, 8191⟩, some ⟨29, 13, 0⟩, some ⟨29, 13, 8191⟩] := by decide +kernel

/-! ## LZ77 (V-L) -/

/-- V-L12: the longer match wins over the nearer one. -/
def lz12 : State := { holding [97, 98, 99, 100, 88, 97, 98, 99, 89, 97, 98, 99, 100] with p := 9 }
theorem test_lzSearch_V_L12 : after .lzSearch lz12 (·.best) = some (some ⟨4, 9⟩) := by decide +kernel
/-- V-L11: the nearest of two equal matches. -/
theorem test_lzSearch_V_L11 :
    after .lzSearch { holding [97, 98, 99, 88, 97, 98, 99, 89, 97, 98, 99] with p := 8 } (·.best) = some (some ⟨3, 4⟩) := by
  decide +kernel
theorem test_lzStep : after .lzStep lz12 (fun t => (t.tok, t.p)) = some ([.backRef 4 9], 13) ∧
    after .lzStep (holding [79]) (fun t => (t.tok, t.p)) = some ([.literal 79], 1) := by decide +kernel
/-- V-L6 and V-L7. -/
theorem test_lz77 : after .lz77 (holding [97, 97, 97, 97, 97]) (fun t => (t.tok, t.p)) =
      some ([.literal 97, .backRef 4 1], 5) ∧
    after .lz77 (holding [97, 98, 97, 98]) (·.tok) = some [.literal 97, .literal 98, .literal 97, .literal 98] := by
  decide +kernel

/-! ## FrequencyTally (V-F5) -/

theorem test_tally : after .tally
      { State.reset with tok := [.backRef 258 32768, .backRef 257 1, .backRef 11 5, .backRef 12 6] }
      (fun t => (entries t.llf, entries t.ddf, t.ti)) =
    some ([(256, 1), (265, 2), (284, 1), (285, 1)], [(0, 1), (4, 2), (29, 1)], 4) := by decide +kernel

/-! ## HuffmanBuilder (V-H, V-C, R126, R128, R132) -/

theorem test_huffLeaves : after (.huffLeaves .dd) { State.reset with ddf := table 30 [(5, 7)] }
      (fun t => (t.node, t.live)) = some ([.leaf 0 0, .leaf 7 5], [0, 1]) ∧
    after (.huffLeaves .dd) { State.reset with ddf := table 30 [(0, 3)] } (·.node) = some [.leaf 3 0, .leaf 0 1] ∧
    after (.huffLeaves .dd) State.reset (·.node) = some [.leaf 0 0] := by decide +kernel

/-- The example of R128. -/
def four : State := { State.reset with node := [.leaf 1 0, .leaf 1 1, .leaf 2 2, .leaf 2 3], live := [0, 1, 2, 3] }
theorem test_huffMerge : after .huffMerge four (fun t => (t.node.drop 4, t.live)) =
    some ([.merged 2 0 1, .merged 4 2 3, .merged 6 4 5], [6]) := by decide +kernel
theorem test_huffExtract : after (.huffExtract .cl)
      { four with node := four.node ++ [.merged 2 0 1, .merged 4 2 3, .merged 6 4 5], live := [6] }
      (fun t => entries t.u) = some [(0, 2), (1, 2), (2, 2), (3, 2)] ∧
    after (.huffExtract .dd) { State.reset with node := [.leaf 0 0], live := [0] } (fun t => entries t.u) =
      some [(0, 1)] := by decide +kernel
/-- The example of R132. -/
theorem test_huffLimit : after (.huffLimit .cl)
      { State.reset with u := table 19 [(0, 8), (1, 8), (2, 7), (3, 6), (4, 5), (5, 4), (6, 3), (7, 2), (8, 1)] }
      (fun t => entries t.cllen) =
    some [(0, 7), (1, 7), (2, 7), (3, 7), (4, 5), (5, 4), (6, 3), (7, 2), (8, 1)] := by decide +kernel
/-- V-C4. -/
theorem test_huffCanon : after (.huffCanon .cl)
      { State.reset with cllen := table 19 [(0, 3), (1, 3), (2, 3), (3, 3), (4, 3), (5, 2), (6, 4), (7, 4)] }
      (fun t => t.clcode.take 8) = some [2, 3, 4, 5, 6, 0, 14, 15] := by decide +kernel
/-- V-H2 and V-H5. -/
theorem test_huffBuild : after (.huffBuild .cl) { State.reset with clf := table 19 [(0, 5), (1, 1), (2, 1), (3, 2)] }
      (fun t => (entries t.cllen, t.clcode.take 4)) = some ([(0, 1), (1, 3), (2, 3), (3, 2)], [0, 6, 7, 2]) ∧
    after (.huffBuild .dd) { State.reset with ddf := table 30 [(0, 3)] } (fun t => (entries t.ddlen, t.ddcode.take 2)) =
      some ([(0, 1), (1, 1)], [0, 1]) := by decide +kernel

/-! ## CodeLengthRLE (V-R) -/

/-- A block whose length vector is the given one. -/
def lengths (V : List Nat) : State := { State.reset with lllen := V, hlit := V.length }
theorem test_clRle : after .clRle (lengths [0, 0, 0, 4, 4, 4, 4, 0, 4]) (·.rle) =
      some [⟨17, 3, 0⟩, ⟨4, 0, 0⟩, ⟨16, 2, 0⟩, ⟨0, 0, 0⟩, ⟨4, 0, 0⟩] ∧
    after .clRle (lengths (List.replicate 8 5)) (·.rle) = some [⟨5, 0, 0⟩, ⟨16, 2, 3⟩, ⟨5, 0, 0⟩] := by decide +kernel
theorem test_clRle_zeros : after .clRle (lengths (List.replicate 149 0)) (·.rle) = some [⟨18, 7, 127⟩, ⟨18, 7, 0⟩] ∧
    after .clRle (lengths (List.replicate 141 0)) (·.rle) = some [⟨18, 7, 127⟩, ⟨17, 3, 0⟩] := by decide +kernel
theorem test_clTally : after .clTally
      { State.reset with rle := [⟨17, 3, 0⟩, ⟨4, 0, 0⟩, ⟨16, 2, 0⟩, ⟨0, 0, 0⟩, ⟨4, 0, 0⟩] }
      (fun t => (entries t.clf, t.ri)) = some ([(0, 1), (4, 2), (16, 1), (17, 1)], 5) := by decide +kernel

/-! ## BlockWriter (V-S, R153 to R162) -/

theorem test_sizes : after .sizeHlit { State.reset with lllen := table 286 [(65, 2), (256, 2), (285, 1)] } (·.hlit) = some 286 ∧
    after .sizeHlit { State.reset with lllen := table 286 [(79, 1), (256, 1)] } (·.hlit) = some 257 ∧
    after .sizeHdist { State.reset with ddlen := table 30 [(0, 1), (29, 1)] } (·.hdist) = some 30 ∧
    after .sizeHdist { State.reset with ddlen := table 30 [(0, 1)] } (·.hdist) = some 1 := by decide +kernel
theorem test_sizeHclen :
    after .sizeHclen { State.reset with cllen := table 19 [(1, 1), (18, 1)] } (·.hclen) = some 18 ∧
    after .sizeHclen { State.reset with cllen := table 19 [(0, 2), (8, 2), (16, 1)] } (·.hclen) = some 5 := by decide +kernel
theorem test_writeHeader : after .writeHeader { State.reset with hlit := 262, hdist := 6, hclen := 18 } (·.bits) =
    some (bits [1, 0, 1, 1, 0, 1, 0, 0, 1, 0, 1, 0, 0, 0, 1, 1, 1]) := by decide +kernel
theorem test_writeCllens : after .writeCllens { State.reset with cllen := table 19 [(1, 1), (18, 1)], hclen := 18 }
      (fun t => (t.bits.drop 6, t.ci)) =
    some (bits [1, 0, 0] ++ List.replicate 42 false ++ bits [1, 0, 0], 18) := by decide +kernel
/-- The example of R158. -/
theorem test_writeRle : after .writeRle
      { State.reset with
        rle := [⟨18, 7, 68⟩, ⟨1, 0, 0⟩], cllen := table 19 [(1, 1), (18, 1)], clcode := table 19 [(18, 1)] }
      (fun t => (t.bits, t.ri)) = some (bits [1, 0, 0, 1, 0, 0, 0, 1, 0], 2) := by decide +kernel
/-- The code tables of input `AAAA` (P3). -/
def aaaa : State :=
  { State.reset with
    lllen := table 286 [(65, 2), (256, 2), (257, 1)], llcode := table 286 [(65, 2), (256, 3)]
    ddlen := table 30 [(0, 1), (1, 1)], ddcode := table 30 [(1, 1)] }
theorem test_writeSymbols : after (.writeLiteral 65) aaaa (·.bits) = some (bits [1, 0]) ∧
    after (.writeMatch 3 1) aaaa (·.bits) = some (bits [0, 0]) ∧
    after .writeEob aaaa (·.bits) = some (bits [1, 1]) ∧
    after .writeTokens { aaaa with tok := [.literal 65, .backRef 3 1] } (fun t => (t.bits, t.ti)) =
      some (bits [1, 0, 0, 0], 2) := by decide +kernel
/-- The example of R160. -/
theorem test_writeMatch : after (.writeMatch 4 7)
      { State.reset with lllen := table 286 [(258, 4)], llcode := table 286 [(258, 15)], ddlen := table 30 [(5, 1)] }
      (·.bits) = some (bits [1, 1, 1, 1, 0, 0]) := by decide +kernel
/-- A symbol without a code (R164): error entry, nothing emitted. -/
theorem test_writeSymbol_internal : after (.writeLiteral 66) aaaa (fun t => (t.errcode, t.phase, t.bits)) =
    some (.internal, .error, []) := by decide +kernel

/-! ## Elements -/

theorem test_header_elements : after .bfinal State.reset (·.bits) = some (bits [1]) ∧
    after .btype State.reset (·.bits) = some (bits [0, 1]) ∧
    after (.hlit 5) State.reset (·.bits) = some (bits [1, 0, 1, 0, 0]) ∧
    after (.hdist 29) State.reset (·.bits) = some (bits [1, 0, 1, 1, 1]) ∧
    after (.hclen 14) State.reset (·.bits) = some (bits [0, 1, 1, 1]) ∧
    after (.cllenField 4) State.reset (·.bits) = some (bits [0, 0, 1]) := by decide +kernel

/-- A block in which one symbol of one alphabet has the code '10'. -/
def oneCoded (a : Alphabet) (x : Nat) : State :=
  (State.reset.setLens a (table a.size [(x, 2)])).setCodes a (table a.size [(x, 2)])

/-- The element appends its bits. -/
def appends (e : Alphabet × Nat × List Nat × Instr) : Bool :=
  after e.2.2.2 (oneCoded e.1 e.2.1) (·.bits) == some (bits ([1, 0] ++ e.2.2.1))

theorem test_elements0_append : elements0.all appends = true := by decide +kernel

theorem test_elements1_append : elements1.all appends = true := by decide +kernel

theorem test_elements2_append : elements2.all appends = true := by decide +kernel

theorem test_elements3_append : elements3.all appends = true := by decide +kernel

/-! ## The whole operation (P1, P2) and the host -/

theorem test_compress_P1 : after .compress State.reset.start (fun t => (t.outBytes, t.nbits, t.statusWord)) =
    some ([0x05, 0xc0, 0x81, 0x00, 0x00, 0x00, 0x00, 0x00, 0x10, 0xff, 0xd5, 0x04].map some, 91, 0xd2) := by
  decide +kernel

theorem test_compress_P2 :
    after .compress { State.reset with inLen := 1, inp := [(0, 0x4f)] }.start (fun t => (t.outBytes, t.nbits)) =
      some ([0x05, 0xc0, 0x81, 0x00, 0x00, 0x00, 0x00, 0x00, 0x90, 0x44, 0xff, 0x37, 0x08].map some, 100) := by
  decide +kernel

/-- One step: the host reads `STATUS` while phase 9 runs, and writes START while BUSY. -/
theorem test_host_steps :
    (match step { State.reset with busy := true, phase := .writeRle, hostQ := [.act (.readReg 1)] } with
      | .next t => t.hostData
      | _ => 0) = 0x91 ∧
    (match step { State.reset with busy := true, phase := .writeRle, hostQ := [.act (.writeReg 0 1)] } with
      | .next t => decide (t = { State.reset with busy := true, phase := .writeRle })
      | _ => false) = true := by decide +kernel

/-- One step: the register numbers of R12 to R17, and one that no register has. -/
theorem test_register_numbers :
    [0, 1, 2, 3, 4].map (fun k => match step { State.reset with
        done := true, phase := .done, inLen := 7, outLen := 9, hostQ := [.act (.readReg k)] } with
      | .next t => t.hostData
      | _ => 99) = [0, 0xd2, 0, 7, 9] ∧
    (match step { State.reset with hostQ := [.act (.writeReg 3 5)] } with
      | .next t => t.inLen
      | _ => 0) = 5 ∧
    (match step { State.reset with hostQ := [.act (.readReg 5)] } with
      | .refused r => decide (r = .noSuchRegister 5)
      | _ => false) = true ∧
    (match step { State.reset with outLen := 9, hostQ := [.act (.writeReg 4 0)] } with
      | .next t => t.outLen
      | _ => 0) = 9 := by decide +kernel

/-- One step after `withFetchWord` runs the word's instruction. -/
theorem test_withFetchWord :
    (match step (State.reset.withFetchWord 8 0x01) with
      | .next t => t.bits
      | _ => []) = [false] := by decide +kernel
/-! ## Witnesses: a state and operands that meet each statement's hypotheses together -/

/-- A running block with one operation issued. -/
def running : State := { State.reset with busy := true, phase := .tally, opq := [0x18] }

theorem witness_invariant : running.Inv where
  busyAlone := by decide
  doneAlone := by decide
  phaseDone := by decide
  phaseError := by decide
  phaseIdle := by decide
  errcodeErr := by decide
  quiet := by decide
  issued := by
    intro w hw
    exact ⟨.tally, by rw [List.mem_singleton.mp hw]; rfl⟩
  inputFits := by decide
  noResult := by decide
  outListed := by decide
  freqSize a := by cases a <;> exact List.length_replicate
  lensSize a := by cases a <;> exact List.length_replicate
  codesSize a := by cases a <;> exact List.length_replicate
  lensCap a := by cases a <;> decide +kernel
  hlitRange := by decide
  hdistRange := by decide
  hclenRange := by decide
  tokRange := by decide
  rleRange := by decide
  rleCount := by decide
  liveRises := by decide
  liveInNode := by decide
  inWf := rfl
  outWf := rfl
  inRange := by decide
  outRange := by decide

theorem witness_StepRunsTheIssuedInstruction :
    running.busy = true ∧ running.opq = 0x18 :: [] ∧ decode 0x18 = .ok .tally ∧ running.hostQ = [] ∧
    ({ running with hostQ := [.wait] } : State).hostQ = .wait :: [] := ⟨rfl, rfl, rfl, rfl, rfl⟩

theorem witness_EngineIsQuiescentUnlessBusy :
    State.reset.busy = false ∧ State.reset.hostQ = [] ∧ ({ State.reset with hostQ := [.wait] } : State).hostQ = .wait :: [] :=
  ⟨rfl, rfl, rfl⟩

/-- A running block between two operations. -/
def between (ph : Phase) (n : Nat) : State := { State.reset with busy := true, phase := ph, n := n }

theorem witness_PhasesFollowInTheFixedOrder : ∀ ph n, (between ph n).busy = true ∧ (between ph n).hostQ = [] ∧
    (between ph n).opq = [] ∧ (between ph n).phase = ph ∧ (between ph n).n = n := fun _ _ => ⟨rfl, rfl, rfl, rfl, rfl⟩

/-- Serves PhaseOnlyMovesForward, EveryStepKeepsTheInvariant and EngineMovesAreNeverRefused. -/
theorem witness_steps_of_the_invariant : running.Inv ∧ running.hostQ = [] ∧ ∃ t, step running = .next t :=
  ⟨witness_invariant, rfl, _, rfl⟩

theorem witness_sequenced : running.Sequenced ∧ ({ running with hostQ := [.wait] } : State).hostQ = .wait :: [] := by
  constructor
  · unfold State.Sequenced
    decide
  · rfl

/-- A block with a host transaction next. -/
def hosting (op : HostOp) (busy : Bool) : State := { State.reset with busy := busy, hostQ := [.act op] }

/-- Serves HostReadsTheRegisters, HostWritesTheInputWhileNotBusy, StartWhileBusyIsIgnored,
AcceptedStartClearsThePipeline and ResetGivesEveryRegisterItsValue. -/
theorem witness_host_transactions : ∀ op busy, (hosting op busy).hostQ = .act op :: [] ∧ (hosting op busy).busy = busy :=
  fun _ _ => ⟨rfl, rfl⟩

theorem witness_HostReads_bounds : HostReg.ofNumber 0 = some .ctrl ∧ HostReg.ofNumber 4 = some .outLen ∧ 5 ≤ 5 := by decide

theorem witness_HostWrites_bounds : 10485759 < 10485760 ∧ ¬ 10485760 < 10485760 ∧ (1 : RegWord).getLsbD 0 = true ∧
    (2 : RegWord).getLsbD 0 = false := by decide

theorem witness_HostReadsTheOutputWhenDone :
    (fun s : State => s.hostQ = .act (.readOut 1) :: [] ∧ s.done = true ∧ 1 < s.outLen ∧ Memory.read s.out 1 = some 7)
      { State.reset with hostQ := [.act (.readOut 1)], done := true, outLen := 2, out := [(1, 7)] } ∧
    (fun s : State => s.hostQ = .act (.readOut 2) :: [] ∧ s.outLen ≤ 2)
      { State.reset with hostQ := [.act (.readOut 2)], done := true, outLen := 2, out := [(1, 7)] } ∧
    (hosting (.readOut 0) false).done = false := by decide

/-- A block that has finished with one byte of output. -/
def finished : State :=
  { State.reset with done := true, phase := .done, outLen := 1, out := [(0, 5)], hostQ := [.act (.readOut 0)] }

theorem witness_finished_invariant : finished.Inv where
  busyAlone := by decide
  doneAlone := by decide
  phaseDone := by decide
  phaseError := by decide
  phaseIdle := by decide
  errcodeErr := by decide
  quiet := by decide
  issued := by
    intro w hw
    cases hw
  inputFits := by decide
  noResult := by decide
  outListed := by
    intro k hk
    obtain rfl : k = 0 := Nat.lt_one_iff.mp hk
    exact ⟨5, rfl⟩
  freqSize a := by cases a <;> exact List.length_replicate
  lensSize a := by cases a <;> exact List.length_replicate
  codesSize a := by cases a <;> exact List.length_replicate
  lensCap a := by cases a <;> decide +kernel
  hlitRange := by decide
  hdistRange := by decide
  hclenRange := by decide
  tokRange := by decide
  rleRange := by decide
  rleCount := by decide
  liveRises := by decide
  liveInNode := by decide
  inWf := rfl
  outWf := rfl
  inRange := by decide
  outRange := by decide

theorem witness_HostReadsTheOutputWhenDone_invariant : finished.Inv ∧ finished.hostQ = .act (.readOut 0) :: [] ∧
    finished.done = true ∧ 0 < finished.outLen := ⟨witness_finished_invariant, rfl, rfl, by decide⟩

theorem witness_SequencerComputesCompress :
    (between .idle 1).busy = true ∧ (between .idle 1).hostQ = [] ∧ (between .idle 1).opq = [] ∧
    (between .idle 1).phase = .idle := by decide

/-- Serves EveryStartEnds, RoundTrip and OutputIsOneDynamicBlock: the largest input, and one byte more. -/
theorem witness_input_lengths : ({ State.reset with inLen := 10485760 } : State).inLen.toNat ≤ 10485760 ∧
    10485760 < ({ State.reset with inLen := 10485761 } : State).inLen.toNat ∧ State.reset.hostQ = [] := by decide

theorem next_of_after {α : Type} {i : Instr} {s : State} {f : State → α} {x : α} (h : after i s f = some x) :
    ∃ t, exec i s = .next t := by
  unfold after at h
  split at h
  · exact ⟨_, by assumption⟩
  · cases h

theorem witness_OutputDependsOnTheInputOnly :
    (fun s t : State => s.inLen = t.inLen ∧ (∀ k < s.inLen.toNat, s.inByte k = t.inByte k) ∧ s ≠ t ∧
      ∃ s', exec .compress s.start = .next s')
      State.reset { State.reset with inp := [(0, 9)], bits := [true] } :=
  ⟨rfl, fun k hk => absurd hk (Nat.not_lt_zero k), fun h => by simpa [State.reset] using congrArg State.bits h,
    next_of_after (f := fun _ => true) (by decide +kernel : after .compress State.reset.start (fun _ => true) = some true)⟩

theorem witness_HostProtocolRoundTrip : (fun s : State => s.busy = false ∧ s.hostQ = hostProgram [79])
    { State.reset with hostQ := hostProgram [79] } ∧ ([79] : List Byte).length ≤ 10485760 := ⟨⟨rfl, rfl⟩, by decide⟩

theorem witness_ErrorEntryAndOversizedInput : 10485760 < (between .idle 10485761).n := by decide

theorem witness_SymbolWithoutCodeRaisesInternal :
    State.reset.lllen.getD (79 : Byte).toNat 0 = 0 ∧ State.reset.lllen.getD 256 0 = 0 ∧
    (Instr.cl18 1).element? = some (.coded .cl 18 1 7) ∧ (State.reset.lens .cl).getD 18 0 = 0 ∧
    lengthLookup 3 = some ⟨257, 0, 0⟩ ∧ distLookup 32768 = some ⟨29, 13, 8191⟩ ∧ State.reset.lllen.getD 257 0 = 0 ∧
    aaaa.lllen.getD 257 0 ≠ 0 ∧ aaaa.ddlen.getD 29 0 = 0 ∧
    (Token.literal 79).wf = true ∧ (⟨18, 7, 1⟩ : RleTuple).wf = true := by decide +kernel

theorem witness_SymbolWithoutCode_token : ¬ TokenCoded { State.reset with tok := [.literal 79] } (.literal 79) :=
  fun h => h.1 79 rfl (by decide +kernel)

theorem witness_OutOfRangeOperandsRaiseInternal :
    ((between .lz77 3).n ≤ 10485760 ∧ ({ between .lz77 3 with p := 3 } : State).n ≤ ({ between .lz77 3 with p := 3 } : State).p) ∧
    State.reset.live.length ≠ 1 ∧ four.live.length ≠ 1 ∧ State.reset.hlit < 257 ∧ 29 < (30 : BitVec 5).toNat ∧
    (Token.backRef 2 1).wf = false ∧ (Token.backRef 258 32769).wf = false ∧ (⟨16, 3, 0⟩ : RleTuple).wf = false ∧
    (⟨19, 0, 0⟩ : RleTuple).wf = false := by decide

/-- A block with an oversized `N` and `k` bits. -/
def overfull (k : Nat) : State := { between .lz77 10485761 with bits := List.replicate k true }

theorem overfull_nbits (k : Nat) : (overfull k).nbits = k := List.length_replicate

theorem witness_AccessesOutsideTheBuffersFault : ∃ k, 10485760 < (overfull k).n ∧
    Config.outMax 10485760 < ((overfull k).nbits + 7) / 8 ∧ (overfull k).nbits % 8 ≠ 0 := by
  refine ⟨157291001, Nat.lt_succ_self _, ?_, ?_⟩ <;> rw [overfull_nbits] <;> decide

theorem witness_FinalizePacksTheBits : (aaaa.nbits + 7) / 8 ≤ Config.outMax 10485760 ∧
    (({ aaaa with bits := bits [1, 0, 1, 1, 0, 1, 0, 1, 1] } : State).nbits + 7) / 8 ≤ Config.outMax 10485760 := by decide

theorem witness_PadCompletesTheLastByte : aaaa.nbits % 8 = 0 ∧
    (fun s : State => s.nbits % 8 ≠ 0 ∧ s.nbits / 8 < Config.outMax 10485760) { aaaa with bits := bits [1, 0, 1] } := by
  decide

/-- Serves both statements about lookups: the ends of the domains and the largest closed form. -/
theorem witness_lookups : (3 ≤ 3 ∧ 3 ≤ 258) ∧ (3 ≤ 258 ∧ 258 ≤ 258) ∧ (1 ≤ 1 ∧ 1 ≤ 32768) ∧ (1 ≤ 32768 ∧ 32768 ≤ 32768) ∧
    (1 ≤ 5 ∧ 5 ≤ 5 ∧ 3 < 4 ∧ 30 < 2 ^ 5 ∧ 3 + (4 + 3) * 2 ^ 5 + 30 < 258) ∧
    (1 ≤ 13 ∧ 13 ≤ 13 ∧ 1 < 2 ∧ 8191 < 2 ^ 13) := by decide

/-- Serves SearchFindsTheLongestNearestMatch and LzStepEmitsOneToken: a match, no match, and the end of the input. -/
theorem witness_search : (lz12.n ≤ 10485760 ∧ lz12.p < lz12.n ∧ MatchAt lz12 9 4) ∧
    ((holding [79]).n ≤ 10485760 ∧ (holding [79]).p < (holding [79]).n ∧ (holding [79]).n ≤ (holding [79]).p + 2) := by
  refine ⟨⟨by decide, by decide, ?_⟩, by decide⟩
  exact ⟨by decide, by decide, by decide, by decide, by decide, by decide⟩

theorem witness_Lz77TokensExpandToTheInput : (holding [97, 97, 97, 97, 97]).n ≤ 10485760 := by decide

theorem witness_RunsOfOneByte : (fun s : State => 1 ≤ s.n ∧ s.n ≤ 10485760 ∧ ∀ k < s.n, s.inByte k = 97)
    (holding [97, 97, 97, 97, 97]) := ⟨by decide, by decide, by decide⟩

theorem witness_TallyCountsTheSymbols :
    (fun s : State => (∀ t ∈ s.tok, t.wf = true) ∧ s.llf.length = 286 ∧ s.ddf.length = 30)
      { State.reset with tok := [.literal 79, .backRef 258 32768] } := by decide +kernel

/-- Serves LeavesAreTheUsedSymbolsAndTheDummy and BuildMakesAPrefixCode. -/
theorem witness_frequencies : ∀ a : Alphabet, (State.reset.freq a).length = a.size := by
  intro a
  cases a <;> exact List.length_replicate

theorem witness_MergeBuildsOneTreeFromTheTwoLightest :
    2 ≤ four.live.length ∧ IsLightest four.node four.live 0 ∧ IsLightest four.node (four.live.erase 0) 1 ∧ four.live ≠ [] ∧
    ({ four with live := [3] } : State).live = [3] := by
  refine ⟨by decide, ⟨by decide, by decide⟩, ⟨by decide, by decide⟩, by decide, rfl⟩

/-- A leaf alone as the tree, and a tree of one merge. -/
theorem witness_ExtractGivesTheDepths :
    (fun s : State => s.live = [2] ∧ 2 < s.seq ∧ s.node[2]? = some (.merged 2 0 1) ∧
      (∀ i w l r, s.node[i]? = some (Node.merged w l r) → l < i ∧ r < i) ∧
      (∀ x d e, LeafBelow s.node 2 d x → LeafBelow s.node 2 e x → d = e))
      { State.reset with node := [.leaf 1 0, .leaf 1 1, .merged 2 0 1], live := [2] } ∧
    (fun s : State => s.live = [0] ∧ 0 < s.seq ∧ s.node[0]? = some (.leaf 0 0))
      { State.reset with node := [.leaf 0 0], live := [0] } := by
  refine ⟨⟨rfl, by decide, rfl, ?_, ?_⟩, rfl, by decide, rfl⟩
  · intro i w l r h
    match i, h with
    | 2, h => cases h; decide
  · have child : ∀ i d x, i < 2 → LeafBelow [.leaf 1 0, .leaf 1 1, .merged 2 0 1] i d x → d = 0 := by
      intro i d x hi h
      cases h with
      | leaf => rfl
      | left i w l r d s h1 _ =>
        match i, hi, h1 with
        | 0, _, h1 => cases h1
        | 1, _, h1 => cases h1
      | right i w l r d s h1 _ =>
        match i, hi, h1 with
        | 0, _, h1 => cases h1
        | 1, _, h1 => cases h1
    have one : ∀ d x, LeafBelow [.leaf 1 0, .leaf 1 1, .merged 2 0 1] 2 d x → d = 1 := by
      intro d x h
      cases h with
      | leaf _ w _ h1 => cases h1
      | left _ w l r d _ h1 h2 => cases h1; rw [child 0 d x (by decide) h2]
      | right _ w l r d _ h1 h2 => cases h1; rw [child 1 d x (by decide) h2]
    intro x d e hd he
    rw [one d x hd, one e x he]

theorem kraft_pair (e : Nat) (h : 1 ≤ e) : kraft e [1, 1] = 2 ^ e := by
  obtain ⟨k, rfl⟩ : ∃ k, e = k + 1 := ⟨e - 1, by omega⟩
  simp [kraft]
  omega

/-- Serves CanonicalCodesArePrefixFree and the last clause of LimitMeetsItsPostconditions. -/
theorem witness_kraft : KraftAtMostOne [1, 1] ∧ KraftOne [1, 1] ∧ 2 ≤ usedCount [1, 1] ∧ ∀ l ∈ [1, 1], l ≤ 15 :=
  ⟨fun e h => (kraft_pair e (h 1 (by decide))).le, fun e h => kraft_pair e (h 1 (by decide)), by decide, by decide⟩

theorem witness_CanonicalCodes : (∀ l ∈ aaaa.lens .ll, l ≤ Alphabet.ll.maxLen) ∧
    ∃ next : Nat → Nat, next 1 = 0 ∧ ∀ l, 1 ≤ l → next (l + 1) = (next l + (aaaa.lens .ll).count l) * 2 := by
  refine ⟨by decide +kernel, nextCode (aaaa.lens .ll), rfl, fun l hl => ?_⟩
  obtain ⟨k, rfl⟩ : ∃ k, l = k + 1 := ⟨l - 1, by omega⟩
  rfl

theorem witness_RleExpandsToTheLengths : ∀ l ∈ (lengths [0, 0, 0, 4, 4, 15]).lengthVector, l ≤ 15 := by decide

theorem witness_RleIsGreedy : (lengths []).lengthVector = [] ∧
    (lengths [0, 0, 4, 4]).lengthVector = List.replicate 2 0 ++ (lengths [4, 4]).lengthVector ∧
    (lengths [4, 4]).lengthVector.head? ≠ some 0 ∧
    (lengths [4, 4, 5]).lengthVector = 4 :: (List.replicate 1 4 ++ (lengths [5]).lengthVector) ∧
    (lengths [5]).lengthVector.head? ≠ some 4 := by decide

theorem witness_ClTallyCountsTheTuples : (fun s : State => (∀ t ∈ s.rle, t.wf = true) ∧ s.clf.length = 19)
    { State.reset with rle := [⟨18, 7, 127⟩, ⟨15, 0, 0⟩] } := by decide

theorem witness_SizesComeFromTheLastUsedSymbol :
    aaaa.lllen.getD 257 0 ≠ 0 ∧ (∀ k, 257 < k → aaaa.lllen.getD k 0 = 0) ∧ (∀ k, State.reset.lllen.getD k 0 = 0) ∧
    aaaa.ddlen.getD 1 0 ≠ 0 ∧ (∀ k, 1 < k → aaaa.ddlen.getD k 0 = 0) ∧ (∀ k, State.reset.ddlen.getD k 0 = 0) ∧
    (fun s : State => s.cllen.getD (clOrder.getD 18 0) 0 ≠ 0 ∧
      ∀ k, 18 < k → k < 19 → s.cllen.getD (clOrder.getD k 0) 0 = 0) { State.reset with cllen := table 19 [(15, 1)] } ∧
    (∀ k < 19, State.reset.cllen.getD (clOrder.getD k 0) 0 = 0) := by
  have small : ∀ (L : List Nat) (n : Nat), L.length ≤ n → ∀ k, n ≤ k → L.getD k 0 = 0 := by
    intro L n h k hk
    rw [List.getD_eq_default _ _ (by omega)]
  refine ⟨by decide +kernel, fun k hk => ?_, fun k => ?_, by decide +kernel, fun k hk => ?_, fun k => ?_,
    ⟨by decide +kernel, fun k h1 h2 => by omega⟩, by decide +kernel⟩
  · by_cases h : k < 286
    · exact (by decide +kernel : ∀ j < 286, 257 < j → aaaa.lllen.getD j 0 = 0) k h hk
    · exact small _ 286 (by decide +kernel) k (by omega)
  · by_cases h : k < 286
    · exact (by decide +kernel : ∀ j < 286, State.reset.lllen.getD j 0 = 0) k h
    · exact small _ 286 (by decide +kernel) k (by omega)
  · by_cases h : k < 30
    · exact (by decide +kernel : ∀ j < 30, 1 < j → aaaa.ddlen.getD j 0 = 0) k h hk
    · exact small _ 30 (by decide +kernel) k (by omega)
  · by_cases h : k < 30
    · exact (by decide +kernel : ∀ j < 30, State.reset.ddlen.getD j 0 = 0) k h
    · exact small _ 30 (by decide +kernel) k (by omega)

/-- Both ends of the three ranges. -/
theorem witness_HeaderFields : ∀ e ∈ [(257, 1, 4), (286, 30, 19)], (fun s : State => 257 ≤ s.hlit ∧ s.hlit ≤ 286 ∧
    1 ≤ s.hdist ∧ s.hdist ≤ 30 ∧ 4 ≤ s.hclen ∧ s.hclen ≤ 19)
      { State.reset with hlit := e.1, hdist := e.2.1, hclen := e.2.2 } := by decide

theorem witness_MetaLengthFields : (fun s : State => s.hclen ≤ 19 ∧ ∀ l ∈ s.cllen, l ≤ 7)
    { State.reset with hclen := 19, cllen := table 19 [(16, 7), (15, 1)] } := by decide +kernel

theorem witness_CodeLengthSection : (fun s : State => ∀ t ∈ s.rle, t.wf = true ∧ s.cllen.getD t.symbol 0 ≠ 0)
    { State.reset with rle := [⟨18, 7, 68⟩, ⟨1, 0, 0⟩], cllen := table 19 [(1, 1), (18, 1)] } := by decide +kernel

theorem witness_TokenElements : aaaa.lllen.getD (65 : Byte).toNat 0 ≠ 0 ∧ aaaa.lllen.getD 256 0 ≠ 0 ∧
    lengthLookup 3 = some ⟨257, 0, 0⟩ ∧ distLookup 2 = some ⟨1, 0, 0⟩ ∧ aaaa.lllen.getD 257 0 ≠ 0 ∧
    aaaa.ddlen.getD 1 0 ≠ 0 := by decide +kernel

theorem witness_TokenSection : (fun s : State => ∀ t ∈ s.tok, t.wf = true ∧ TokenCoded s t)
    { aaaa with tok := [.literal 65, .backRef 3 1] } := by
  intro t ht
  simp only [List.mem_cons, List.not_mem_nil, or_false] at ht
  rcases ht with rfl | rfl
  · exact ⟨rfl, fun x hx => by cases hx; decide +kernel, fun x hx => by cases hx⟩
  · exact ⟨rfl, fun x hx => by cases hx; decide +kernel, fun x hx => by cases hx; decide +kernel⟩

theorem witness_FieldElementsAppendTheirField : (Instr.hlit 29).element? = some (.field 29 5) ∧ (Instr.hlit 29).wf = true := by
  decide

/-- Serves the statements about coded elements: one of each alphabet, at the ends of the extra values. -/
theorem witness_coded_elements :
    ((Instr.cl18 127).element? = some (.coded .cl 18 127 7) ∧ (Instr.cl18 127).wf = true ∧
      ((oneCoded .cl 18).lens .cl).getD 18 0 ≠ 0) ∧
    ((Instr.len284 30).element? = some (.coded .ll 284 30 5) ∧ (Instr.len284 30).wf = true ∧
      ((oneCoded .ll 284).lens .ll).getD 284 0 ≠ 0) ∧
    ((Instr.dist29 8191).element? = some (.coded .dd 29 8191 13) ∧ (Instr.dist29 8191).wf = true ∧
      ((oneCoded .dd 29).lens .dd).getD 29 0 ≠ 0) := by decide +kernel

/-- Serves DecodeOfEncode and EncodeOfDecode. -/
theorem witness_words : (Instr.writeMatch 258 32768).wf = true ∧ decode 0x3F = .ok .compress := ⟨rfl, rfl⟩

theorem witness_ElementsReadBack : Readable aaaa.codeBook ∧ (Instr.eob).wf = true ∧ positionOf .eob = some .token ∧
    encodeElement aaaa.codeBook .eob = some (bits [1, 1]) := by
  refine ⟨fun a => ⟨by cases a <;> decide +kernel, by cases a <;> decide +kernel, ?_⟩, rfl, rfl, by decide +kernel⟩
  have used : ∀ (L : List Nat) (n : Nat), L.length ≤ n → ∀ s, L.getD s 0 ≠ 0 → s < n := by
    intro L n h s hs
    by_contra hn
    exact hs (List.getD_eq_default _ _ (by omega))
  intro s t hst hs ht
  cases a with
  | ll =>
    have key : ∀ i < 286, aaaa.lllen.getD i 0 ≠ 0 → i = 65 ∨ i = 256 ∨ i = 257 := by decide +kernel
    have h1 := key s (used _ 286 (by decide +kernel) s hs) hs
    have h2 := key t (used _ 286 (by decide +kernel) t ht) ht
    rcases h1 with rfl | rfl | rfl <;> rcases h2 with rfl | rfl | rfl <;>
      first | exact absurd rfl hst | decide +kernel
  | dd =>
    have key : ∀ i < 30, aaaa.ddlen.getD i 0 ≠ 0 → i = 0 ∨ i = 1 := by decide +kernel
    have h1 := key s (used _ 30 (by decide +kernel) s hs) hs
    have h2 := key t (used _ 30 (by decide +kernel) t ht) ht
    rcases h1 with rfl | rfl <;> rcases h2 with rfl | rfl <;> first | exact absurd rfl hst | decide +kernel
  | cl =>
    have key : ∀ i < 19, aaaa.cllen.getD i 0 = 0 := by decide +kernel
    exact absurd (key s (used _ 19 (by decide +kernel) s hs)) hs

/-! A conforming limiter other than the default: a code of the two lengths m − 1 and m. -/

/-- The first `a` used symbols get length `m`, the others `m + 1`. -/
def twoLengths (m : Nat) : Nat → List Nat → List Nat
  | _, [] => []
  | a, u :: us =>
    if u = 0 then 0 :: twoLengths m a us
    else match a with
      | 0 => (m + 1) :: twoLengths m 0 us
      | a + 1 => m :: twoLengths m a us

theorem kraft_cons (e x : Nat) (L : List Nat) : kraft e (x :: L) = (if x = 0 then 0 else 2 ^ (e - x)) + kraft e L := by
  by_cases h : x = 0 <;> simp [kraft, h]

theorem usedCount_cons (x : Nat) (L : List Nat) : usedCount (x :: L) = (if x = 0 then 0 else 1) + usedCount L := by
  by_cases h : x = 0 <;> simp [usedCount, h]
  omega

theorem twoLengths_length (m a : Nat) (U : List Nat) : (twoLengths m a U).length = U.length := by
  induction U generalizing a with
  | nil => rfl
  | cons u us ih =>
    unfold twoLengths
    split
    · simp [ih]
    · cases a <;> simp [ih]

theorem twoLengths_support (m a : Nat) (U : List Nat) (h : m ≠ 0 ∨ a = 0) (s : Nat) :
    (twoLengths m a U).getD s 0 = 0 ↔ U.getD s 0 = 0 := by
  induction U generalizing a s with
  | nil => rfl
  | cons u us ih =>
    unfold twoLengths
    split
    · rename_i hu
      cases s with
      | zero => simp [hu]
      | succ s => simpa using ih a h s
    · rename_i hu
      cases a with
      | zero =>
        cases s with
        | zero => simp [hu]
        | succ s => simpa using ih 0 (.inr rfl) s
      | succ a =>
        have hm : m ≠ 0 := by omega
        cases s with
        | zero => simp [hu, hm]
        | succ s => simpa using ih a (.inl hm) s

theorem twoLengths_le (m a : Nat) (U : List Nat) : ∀ l ∈ twoLengths m a U, l ≤ m + 1 := by
  induction U generalizing a with
  | nil => simp [twoLengths]
  | cons u us ih =>
    unfold twoLengths
    split
    · simpa using ih a
    · cases a with
      | zero => simpa using ih 0
      | succ a => simpa using ih a

theorem twoLengths_long (m a : Nat) (U : List Nat) (h : a < usedCount U) : m + 1 ∈ twoLengths m a U := by
  induction U generalizing a with
  | nil => simp [usedCount] at h
  | cons u us ih =>
    rw [usedCount_cons] at h
    unfold twoLengths
    split
    · rename_i hu
      simp only [hu, if_true, Nat.zero_add] at h
      exact List.mem_cons_of_mem _ (ih a h)
    · rename_i hu
      simp only [hu, if_false] at h
      cases a with
      | zero => simp
      | succ a => exact List.mem_cons_of_mem _ (ih a (by omega))

theorem twoLengths_kraft (m e a : Nat) (U : List Nat) (hm : m ≠ 0 ∨ a = 0) (ha : a ≤ usedCount U) :
    kraft (e + (m + 1)) (twoLengths m a U) = (usedCount U + a) * 2 ^ e := by
  induction U generalizing a with
  | nil =>
    have : a = 0 := by simpa [usedCount] using ha
    subst this
    simp [twoLengths, kraft, usedCount]
  | cons u us ih =>
    rw [usedCount_cons] at ha ⊢
    unfold twoLengths
    by_cases hu : u = 0
    · simp only [hu, if_true, Nat.zero_add] at ha ⊢
      rw [kraft_cons, ih a hm ha]
      simp
    · simp only [hu, if_false] at ha ⊢
      cases a with
      | zero =>
        rw [kraft_cons, ih 0 (.inr rfl) (Nat.zero_le _)]
        simp only [Nat.add_eq_zero_iff, Nat.one_ne_zero, and_false, if_false]
        rw [show e + (m + 1) - (m + 1) = e by omega]
        ring
      | succ a =>
        have hm' : m ≠ 0 := by omega
        rw [kraft_cons, ih a (.inl hm') (by omega)]
        simp only [hm', if_false]
        rw [show e + (m + 1) - m = e + 1 by omega, Nat.pow_succ]
        ring

/-- The limiter: nothing to do, or the code of two lengths for as many symbols. -/
def otherLimiter (U : List Nat) (M : Nat) : List Nat :=
  if U.all (fun l => decide (l ≤ M)) then U
  else twoLengths (Nat.log2 (usedCount U - 1)) (2 ^ (Nat.log2 (usedCount U - 1) + 1) - usedCount U) U

theorem witness_RoundTripOfEveryConformingBlock : Conforming ⟨Config.defaultMaxInput + 1, fun _ => otherLimiter⟩ := by
  refine ⟨Nat.le_succ _, fun _ U M h => ?_, fun _ U M _ _ hK h2 hM => ?_⟩
  · have : U.all (fun l => decide (l ≤ M)) = true := by simpa using h
    simp [otherLimiter, this]
  · by_cases hall : U.all (fun l => decide (l ≤ M)) = true
    · have heq : otherLimiter U M = U := by simp [otherLimiter, hall]
      simp only [heq]
      exact ⟨trivial, fun _ => trivial, by simpa using hall, hK⟩
    · have heq : otherLimiter U M = twoLengths (Nat.log2 (usedCount U - 1))
          (2 ^ (Nat.log2 (usedCount U - 1) + 1) - usedCount U) U := by simp [otherLimiter, hall]
      simp only [heq]
      generalize hm : Nat.log2 (usedCount U - 1) = m
      have lo : 2 ^ m ≤ usedCount U - 1 := by
        rw [← hm]
        exact Nat.log2_self_le (by omega)
      have hi : usedCount U - 1 < 2 ^ (m + 1) := by
        rw [← hm]
        exact Nat.lt_log2_self
      rw [Nat.pow_succ] at hi
      have hmM : m < M := (Nat.pow_lt_pow_iff_right (by decide : 1 < 2)).mp (by omega)
      have ha : 2 ^ (m + 1) - usedCount U < usedCount U := by
        rw [Nat.pow_succ]
        omega
      have h0 : m ≠ 0 ∨ 2 ^ (m + 1) - usedCount U = 0 := by
        by_cases h : m = 0
        · right
          subst h
          omega
        · exact .inl h
      refine ⟨twoLengths_length _ _ _, twoLengths_support _ _ _ h0, fun l hl => ?_, fun e he => ?_⟩
      · have := twoLengths_le _ _ _ l hl
        omega
      · have hme := he _ (twoLengths_long _ _ _ ha)
        obtain ⟨k, rfl⟩ : ∃ k, e = k + (m + 1) := ⟨e - (m + 1), by omega⟩
        rw [twoLengths_kraft _ _ _ _ h0 (by omega), Nat.pow_add, Nat.pow_succ]
        have : usedCount U + (2 ^ m * 2 - usedCount U) = 2 ^ m * 2 := by omega
        rw [this]
        ring

end Sys2Proof.Tests
end

section
/-! PROOFS. The packing of bits into bytes, and FINALIZE as the write of the packed bytes (R43, R94). -/

namespace Sys2Proof.Machine

theorem ofLsbBits_take (n : Nat) (bs : List Bit) :
    ofLsbBits (bs.take n) = ((List.range n).map fun j => (bs.getD j false).toNat * 2 ^ j).sum := by
  induction n generalizing bs with
  | zero => rfl
  | succ n ih =>
    cases bs with
    | nil => simp [ofLsbBits]
    | cons b bs =>
      have shift : ((List.range n).map fun j => (bs.getD j false).toNat * 2 ^ (j + 1)).sum =
          2 * ((List.range n).map fun j => (bs.getD j false).toNat * 2 ^ j).sum := by
        rw [← List.sum_map_mul_left]
        simp only [Nat.pow_succ, Nat.mul_comm, Nat.mul_left_comm]
      simp only [List.take_succ_cons, ofLsbBits, ih, ← shift]
      simp [List.range_succ_eq_map, Function.comp_def]

@[simp] theorem length_bitsToBytes (bs : List Bit) : (bitsToBytes bs).length = (bs.length + 7) / 8 := by
  simp [bitsToBytes]

/-- A packed byte as R43 writes it. -/
theorem packByte_drop (bs : List Bit) (i : Nat) :
    packByte (bs.drop i) =
      BitVec.ofNat 8 ((List.range 8).map fun j => (bs.getD (i + j) false).toNat * 2 ^ j).sum := by
  simp only [packByte, ofLsbBits_take, List.getD_eq_getElem?_getD, List.getElem?_drop]

theorem getElem?_bitsToBytes (bs : List Bit) (k : Nat) (hk : k < (bs.length + 7) / 8) :
    (bitsToBytes bs)[k]? = some (packByte (bs.drop (8 * k))) := by
  simp [bitsToBytes, hk]

/-- FINALIZE is a write of the packed bytes and of their number. -/
theorem exec_finalize (s : State) :
    exec .finalize s = finish (andThen (writeBytes Config.defaultMaxInput 0 (bitsToBytes s.bits) s) fun t =>
      .ok { t with outLen := (s.nbits + 7) / 8 }) := by
  rw [← length_bitsToBytes]
  rfl

/-- Settles O28: the write of bytes has its cases in `writeBytes_cases`, and the hypothesis excludes its fault. -/
theorem finalizePacksTheBits : Obligations.FinalizePacksTheBits := by
  intro s hfit
  obtain ⟨-, out, hwrite, hread, hother, hwf⟩ | ⟨-, hover, -⟩ :=
    writeBytes_cases Config.defaultMaxInput 0 (bitsToBytes s.bits) s
  · simp only [length_bitsToBytes, Nat.zero_add] at hread hother
    refine ⟨out, ?_, fun k hk => ?_, fun k hk => hother k (.inr hk), hwf⟩
    · simp only [exec_finalize, hwrite, andThen_ok, finish_ok]
    · rw [hread k hk, getElem?_bitsToBytes _ _ hk, packByte_drop]
  · rw [length_bitsToBytes, Nat.zero_add] at hover
    exact absurd hfit (Nat.not_le.mpr hover)

end Sys2Proof.Machine
end

section
/-! PROOFS. LZ77 (R110 to R116): every token is in range, and the tokens span the input. -/

namespace Sys2Proof.Machine

/-- The number of input bytes a token stands for (R114). -/
def Token.span : Token → Nat
  | .literal _ => 1
  | .backRef length _ => length

theorem matchLen_le (k : Nat) (xs ys : List Byte) : matchLen k xs ys ≤ k := by
  induction k generalizing xs ys with
  | zero => simp [matchLen]
  | succ k ih =>
    cases xs with
    | nil => simp [matchLen]
    | cons x xs =>
      cases ys with
      | nil => simp [matchLen]
      | cons y ys =>
        have := ih xs ys
        simp only [matchLen]
        split <;> omega

theorem mlen_le (S : List Byte) (start p maxl : Nat) : mlen S start p maxl ≤ maxl := matchLen_le _ _ _

theorem sub_of_mem_starts {p q : Nat} (h : q ∈ starts p) : 1 ≤ p - q ∧ p - q ≤ 32768 := by
  simp only [starts, Config.windowSize, List.mem_map, List.mem_range] at h
  omega

/-- A candidate of the search: no longer than allowed, and at a distance of the window unless it is still empty. -/
def Hit.Admissible (maxl : Nat) (b : Hit) : Prop := b.len ≤ maxl ∧ (b.len ≠ 0 → 1 ≤ b.dist ∧ b.dist ≤ 32768)

theorem tryStart_admissible {S : List Byte} {p maxl start : Nat} {best : Hit} (hb : best.Admissible maxl)
    (hs : start ∈ starts p) : (tryStart S p maxl best start).Admissible maxl := by
  unfold tryStart
  split
  · exact ⟨mlen_le _ _ _ _, fun _ => sub_of_mem_starts hs⟩
  · exact hb

/-- What a search answers is a match in the ranges of R60 that ends inside the input. -/
theorem lzSearch_hit {S : List Byte} {p : Nat} {h : Hit} (hs : lzSearch S p = some h) :
    3 ≤ h.len ∧ h.len ≤ 258 ∧ h.len ≤ S.length - p ∧ 1 ≤ h.dist ∧ h.dist ≤ 32768 := by
  simp only [lzSearch, Option.ite_none_left_eq_some, Option.ite_none_right_eq_some, Option.some.injEq] at hs
  obtain ⟨-, hlong, rfl⟩ := hs
  have adm : ((starts p).foldl (tryStart S p (min Config.maxMatch (S.length - p))) ⟨0, 0⟩).Admissible
      (min Config.maxMatch (S.length - p)) :=
    List.foldlRecOn _ _ ⟨Nat.zero_le _, fun h => absurd rfl h⟩ fun _ hb _ hq => tryStart_admissible hb hq
  obtain ⟨hlen, hdist⟩ := adm
  simp only [Config.maxMatch, Config.minMatch] at hlen hdist hlong ⊢
  have := hdist (by omega)
  omega

/-- One LZ_STEP inside the input appends one legal token and moves the cursor by its span (R114). -/
theorem lzStepOn_ok (S : List Byte) (s : State) (hp : s.p < S.length) :
    ∃ x : Token, lzStepOn S s = .ok { s with tok := s.tok ++ [x], p := s.p + x.span } ∧ x.wf = true ∧
      1 ≤ x.span ∧ s.p + x.span ≤ S.length := by
  simp only [lzStepOn, List.getElem?_eq_getElem hp]
  cases hs : lzSearch S s.p with
  | none => exact ⟨.literal S[s.p], rfl, rfl, Nat.le_refl 1, hp⟩
  | some h =>
    have := lzSearch_hit hs
    refine ⟨.backRef h.len h.dist, rfl, ?_, ?_, ?_⟩
    · simp [Token.wf]; omega
    · simp only [Token.span]; omega
    · simp only [Token.span]; omega

/-- Enough rounds of the loop bring the cursor to the end of the input (R116). -/
theorem lz77Loop_ok (S : List Byte) (k : Nat) (s : State) (hp : s.p ≤ S.length) (hk : S.length ≤ s.p + k) :
    ∃ T : List Token, lz77Loop S k s = .ok { s with tok := s.tok ++ T, p := S.length } ∧
      (∀ x ∈ T, x.wf = true) ∧ s.p + (T.map Token.span).sum = S.length := by
  induction k generalizing s with
  | zero =>
    have hend : s.p = S.length := by omega
    exact ⟨[], by simp [lz77Loop, ← hend], by simp, by simpa using hend⟩
  | succ k ih =>
    by_cases h : s.p < S.length
    · obtain ⟨x, hx, hwf, hpos, hle⟩ := lzStepOn_ok S s h
      obtain ⟨T, hT, hwfs, hsum⟩ := ih { s with tok := s.tok ++ [x], p := s.p + x.span } hle (by simp only; omega)
      refine ⟨x :: T, ?_, by simpa [hwf] using hwfs, by simpa [Nat.add_assoc] using hsum⟩
      simp [lz77Loop, h, hx, hT]
    · have hend : s.p = S.length := by omega
      exact ⟨[], by simp [lz77Loop, ← hend], by simp, by simpa using hend⟩

/-- LZ77 on an accepted input answers legal tokens whose spans add up to the input's length. -/
theorem opLz77_ok (maxInput : Nat) (s : State) (h : s.n ≤ maxInput) :
    ∃ T : List Token, opLz77 maxInput s = .ok { s with tok := T, p := s.n } ∧
      (∀ x ∈ T, x.wf = true) ∧ (T.map Token.span).sum = s.n := by
  obtain ⟨T, hT, hwf, hsum⟩ := lz77Loop_ok ((List.range s.n).map s.inByte) s.n { s with p := 0, tok := [] }
    (Nat.zero_le _) (by simp)
  refine ⟨T, ?_, hwf, by simpa using hsum⟩
  simpa [opLz77, State.inputSeq, h] using hT

end Sys2Proof.Machine
end

section
/-! PROOFS. The code tables (R101 to R104) as the tally and the writer use them. -/

namespace Sys2Proof.Machine

theorem lookupIn_eq_some {table : List CodeRow} {v : Nat} {c : Lookup} (h : lookupIn table v = some c) :
    ∃ r ∈ table, r.base ≤ v ∧ c.code = r.code ∧ c.extra = r.extra := by
  obtain ⟨r, hr, rfl⟩ := Option.map_eq_some_iff.mp h
  have hcover := List.find?_some hr
  simp only [Bool.and_eq_true, decide_eq_true_eq] at hcover
  exact ⟨r, List.mem_of_find?_eq_some hr, hcover.1, rfl, rfl⟩

theorem lookupIn_isSome {table : List CodeRow} {v : Nat} (h : ∃ r ∈ table, r.base ≤ v ∧ v ≤ r.last) :
    ∃ c, lookupIn table v = some c := by
  obtain ⟨r, hr, hv⟩ := h
  rw [← Option.isSome_iff_exists, lookupIn, Option.isSome_map, List.find?_isSome]
  exact ⟨r, hr, by simpa using hv⟩

/-- Every match length has a code (R101). -/
theorem lengthLookup_isSome {l : Nat} (h1 : 3 ≤ l) (h2 : l ≤ 258) : ∃ c, lengthLookup l = some c := by
  apply lookupIn_isSome
  simp only [lengthTable, List.cons_append, List.nil_append, List.mem_cons, List.not_mem_nil, or_false,
    exists_eq_or_imp, exists_eq_left]
  omega

/-- Every distance of the window has a code (R103). -/
theorem distLookup_isSome {d : Nat} (h1 : 1 ≤ d) (h2 : d ≤ 32768) : ∃ e, distLookup d = some e := by
  apply lookupIn_isSome
  simp only [distTable, List.cons_append, List.nil_append, List.mem_cons, List.not_mem_nil, or_false,
    exists_eq_or_imp, exists_eq_left]
  omega

/-- A length code is a symbol of the LL alphabet; it has extra bits from length 11 on only, and 5 at most (R102). -/
theorem lengthLookup_bounds {l : Nat} {c : Lookup} (h : lengthLookup l = some c) :
    c.code < 286 ∧ (c.extra = 0 ∨ c.extra ≤ 5 ∧ 11 ≤ l) := by
  obtain ⟨r, hr, hbase, hcode, hextra⟩ := lookupIn_eq_some h
  have rows : ∀ r ∈ lengthTable, r.code < 286 ∧ (r.extra = 0 ∨ r.extra ≤ 5 ∧ 11 ≤ r.base) := by decide
  have := rows r hr
  omega

/-- A distance code is a symbol of the DD alphabet with 13 extra bits at most (R104). -/
theorem distLookup_bounds {d : Nat} {e : Lookup} (h : distLookup d = some e) : e.code < 30 ∧ e.extra ≤ 13 := by
  obtain ⟨r, hr, -, hcode, hextra⟩ := lookupIn_eq_some h
  have rows : ∀ r ∈ distTable, r.code < 30 ∧ r.extra ≤ 13 := by decide
  rw [hcode, hextra]
  exact rows r hr

/-- A legal token is a literal, or a pair both of whose parts have a code (R60, R101, R103). -/
theorem Token.wf_cases {x : Token} (h : x.wf = true) :
    (∃ b, x = .literal b) ∨
      ∃ l d c e, x = .backRef l d ∧ 3 ≤ l ∧ lengthLookup l = some c ∧ distLookup d = some e := by
  cases x with
  | literal b => exact .inl ⟨b, rfl⟩
  | backRef l d =>
    simp only [Token.wf, Bool.and_eq_true, decide_eq_true_eq] at h
    obtain ⟨⟨⟨hl3, hl258⟩, hd1⟩, hd⟩ := h
    obtain ⟨c, hc⟩ := lengthLookup_isSome hl3 hl258
    obtain ⟨e, he⟩ := distLookup_isSome hd1 hd
    exact .inr ⟨l, d, c, e, rfl, hl3, hc, he⟩

end Sys2Proof.Machine
end

section
/-! PROOFS. Counting symbols: TALLY (R120 to R122) and CL_TALLY (R148) as bumps of the frequency tables. -/

namespace Sys2Proof.Machine

theorem getD_bump (t : List Nat) (i x : Nat) :
    (bump t i).getD x 0 = if x = i ∧ i < t.length then t.getD x 0 + 1 else t.getD x 0 := by
  simp only [bump, List.getD_eq_getElem?_getD, List.getElem?_set]
  by_cases hx : i = x
  · subst hx
    by_cases h : i < t.length <;> simp [h]
  · simp [hx, Ne.symm hx]

theorem length_foldl_bump (xs : List Nat) (t : List Nat) : (xs.foldl bump t).length = t.length := by
  induction xs generalizing t with
  | nil => rfl
  | cons x xs ih => simp [ih]

theorem getD_le_foldl_bump (xs : List Nat) (t : List Nat) (x : Nat) : t.getD x 0 ≤ (xs.foldl bump t).getD x 0 := by
  induction xs generalizing t with
  | nil => exact Nat.le_refl _
  | cons y xs ih =>
    refine Nat.le_trans ?_ (ih (bump t y))
    rw [getD_bump]
    split <;> omega

/-- A counted symbol has a positive frequency. -/
theorem foldl_bump_pos {xs : List Nat} {t : List Nat} {x : Nat} (hx : x ∈ xs) (hlt : x < t.length) :
    0 < (xs.foldl bump t).getD x 0 := by
  induction xs generalizing t with
  | nil => cases hx
  | cons y xs ih =>
    rcases List.mem_cons.mp hx with rfl | hx
    · refine Nat.lt_of_lt_of_le ?_ (getD_le_foldl_bump xs (bump t x) x)
      rw [getD_bump, if_pos ⟨rfl, hlt⟩]
      omega
    · exact ih hx (by simpa using hlt)

theorem tallyToken_ok (x : Token) (s : State) (h : x.wf = true) :
    tallyToken x s = .ok { s with llf := x.llSymbol.toList.foldl bump s.llf,
                                  ddf := x.ddSymbol.toList.foldl bump s.ddf } := by
  rcases Token.wf_cases h with ⟨b, rfl⟩ | ⟨l, d, c, e, rfl, -, hc, he⟩
  · rfl
  · simp [tallyToken, Token.llSymbol, Token.ddSymbol, hc, he]

/-- The loop over legal tokens bumps each token's symbols, in order. -/
theorem tallyLoop_ok (xs : List Token) (s : State) (h : ∀ x ∈ xs, x.wf = true) :
    tallyLoop xs s = .ok { s with ti := s.ti + xs.length, llf := (xs.filterMap Token.llSymbol).foldl bump s.llf,
                                  ddf := (xs.filterMap Token.ddSymbol).foldl bump s.ddf } := by
  induction xs generalizing s with
  | nil => rfl
  | cons x xs ih =>
    simp only [tallyLoop, tallyToken_ok x s (h x (by simp)), andThen_ok, ih _ fun y hy => h y (by simp [hy])]
    cases hl : x.llSymbol <;> cases hd : x.ddSymbol <;>
      simp [hl, hd, Nat.add_assoc, Nat.add_comm 1]

/-- TALLY on legal tokens bumps the tokens' symbols and symbol 256. -/
theorem opTally_ok (s : State) (h : ∀ x ∈ s.tok, x.wf = true) :
    opTally s = .ok { s with ti := s.ntok,
                             llf := (s.tok.filterMap Token.llSymbol ++ [256]).foldl bump s.llf,
                             ddf := (s.tok.filterMap Token.ddSymbol).foldl bump s.ddf } := by
  simp [opTally, tallyLoop_ok s.tok { s with ti := 0 } h, Config.eobSymbol]

/-- CL_TALLY on legal tuples bumps the tuples' symbols. -/
theorem opClTally_ok (s : State) (h : ∀ x ∈ s.rle, x.wf = true) :
    opClTally s = .ok { s with ri := s.nrle, clf := (s.rle.map RleTuple.symbol).foldl bump s.clf } := by
  have loop : ∀ (xs : List RleTuple) (t : State), (∀ x ∈ xs, x.wf = true) →
      clTallyLoop xs t = .ok { t with ri := t.ri + xs.length, clf := (xs.map RleTuple.symbol).foldl bump t.clf } := by
    intro xs
    induction xs with
    | nil => intro t _; rfl
    | cons x xs ih =>
      intro t hxs
      simp only [clTallyLoop, clTallyTuple, hxs x (by simp), if_true, andThen_ok, ih _ fun y hy => hxs y (by simp [hy])]
      simp [Nat.add_assoc, Nat.add_comm 1]
  simp [opClTally, loop s.rle { s with ri := 0 } h]

theorem llSymbol_lt {x : Token} {y : Nat} (h : x.llSymbol = some y) : y < 286 := by
  cases x with
  | literal b =>
    obtain rfl := Option.some.inj h
    have := b.isLt
    omega
  | backRef l d =>
    obtain ⟨c, hc, rfl⟩ := Option.map_eq_some_iff.mp h
    exact (lengthLookup_bounds hc).1

theorem ddSymbol_lt {x : Token} {y : Nat} (h : x.ddSymbol = some y) : y < 30 := by
  cases x with
  | literal b => cases h
  | backRef l d =>
    obtain ⟨e, he, rfl⟩ := Option.map_eq_some_iff.mp h
    exact (distLookup_bounds he).1

end Sys2Proof.Machine
end

section
/-! PROOFS. The tree of the builder (R126 to R130): every used symbol has a leaf, merging leaves one root above all of
them, and extraction gives each of them a length. -/

namespace Sys2Proof.Machine

theorem lt_length_of_getD_ne_zero {L : List Nat} {x : Nat} (h : L.getD x 0 ≠ 0) : x < L.length := by
  by_contra hge
  exact h (List.getD_eq_default _ _ (Nat.le_of_not_lt hge))

theorem mem_usedEntries {F : List Nat} {x : Nat} (h : F.getD x 0 ≠ 0) : (F.getD x 0, x) ∈ usedEntries F := by
  have hlt := lt_length_of_getD_ne_zero h
  have hx : F[x]? = some (F.getD x 0) := by
    rw [List.getElem?_eq_getElem hlt, List.getD_eq_getElem _ _ hlt]
  exact List.mem_filter.mpr ⟨List.mem_zipIdx_iff_getElem?.mpr hx, by simpa using Nat.pos_of_ne_zero h⟩

/-- The used symbols are among the symbols that get a leaf (R126). -/
theorem usedEntries_subset_leafEntries (F : List Nat) : usedEntries F ⊆ leafEntries F := by
  intro e he
  unfold leafEntries
  split
  · obtain ⟨hmem, hpos⟩ := List.mem_filter.mp he
    exact List.mem_filter.mpr ⟨hmem, by rw [hpos, Bool.true_or]⟩
  · exact he

/-- There is always a leaf: where fewer than two symbols are used, symbol 0 is used or is the dummy (R127). -/
theorem leaves_ne_nil {F : List Nat} (h : F ≠ []) : leaves F ≠ [] := by
  obtain ⟨f, fs, rfl⟩ := List.exists_cons_of_ne_nil h
  suffices leafEntries (f :: fs) ≠ [] by simpa [leaves] using this
  unfold leafEntries
  split
  · have kept : 0 < f ∨ dummySymbol (f :: fs) = some 0 := by
      rcases Nat.eq_zero_or_pos f with rfl | hf
      · exact .inr rfl
      · exact .inl hf
    exact List.ne_nil_of_mem (a := (f, 0)) (List.mem_filter.mpr ⟨by simp [List.zipIdx_cons], by simpa using kept⟩)
  · rename_i htwo
    intro hnil
    simp [hnil] at htwo

theorem pickMin_mem {nodes : List Node} {live : List Nat} {i : Nat} (h : pickMin nodes live = some i) : i ∈ live := by
  induction live generalizing i with
  | nil => cases h
  | cons j js ih =>
    rw [pickMin] at h
    split at h
    · exact Option.some.inj h ▸ List.mem_cons_self
    · rename_i k hk
      split at h
      · exact List.mem_cons_of_mem j (Option.some.inj h ▸ ih hk)
      · exact Option.some.inj h ▸ List.mem_cons_self

theorem pickMin_isSome {nodes : List Node} {live : List Nat} (h : live ≠ []) : ∃ i, pickMin nodes live = some i := by
  obtain ⟨j, js, rfl⟩ := List.exists_cons_of_ne_nil h
  rw [pickMin]
  split
  · exact ⟨j, rfl⟩
  · split <;> exact ⟨_, rfl⟩

/-- With two live nodes a merge takes two of them and puts the new node at the end of both lists (R128). -/
theorem mergeStep_of_two_live (nodes : List Node) {live : List Nat} (h : 2 ≤ live.length) :
    ∃ a b, a ∈ live ∧ b ∈ live.erase a ∧
      mergeStep nodes live = some (nodes ++ [Node.merged (weightAt nodes a + weightAt nodes b) a b],
        (live.erase a).erase b ++ [nodes.length]) := by
  obtain ⟨a, ha⟩ := pickMin_isSome (nodes := nodes) (live := live) (by rintro rfl; simp at h)
  have hlen := List.length_erase_of_mem (pickMin_mem ha)
  obtain ⟨b, hb⟩ := pickMin_isSome (nodes := nodes) (live := live.erase a) (by intro hnil; simp [hnil] at hlen; omega)
  exact ⟨a, b, pickMin_mem ha, pickMin_mem hb, by simp only [mergeStep, ha, hb]⟩

/-- The arena is a forest: children stand before their parent, and live nodes exist (R22). -/
structure Forest (nodes : List Node) (live : List Nat) : Prop where
  childrenBefore : ∀ i w l r : Nat, nodes[i]? = some (.merged w l r) → l < i ∧ r < i
  liveInNode : ∀ i ∈ live, i < nodes.length

/-- A live node has a leaf of symbol `x` below it. -/
def Covered (nodes : List Node) (live : List Nat) (x : Nat) : Prop := ∃ i ∈ live, ∃ d, LeafBelow nodes i d x

theorem LeafBelow.append {nodes : List Node} {i d x : Nat} (h : LeafBelow nodes i d x) (more : List Node) :
    LeafBelow (nodes ++ more) i d x := by
  have old : ∀ {i : Nat} {nd : Node}, nodes[i]? = some nd → (nodes ++ more)[i]? = some nd := by
    intro i nd hi
    rw [List.getElem?_append_left (List.getElem?_eq_some_iff.mp hi).1, hi]
  induction h with
  | leaf i w s hi => exact .leaf i w s (old hi)
  | left i w l r d s hi _ ih => exact .left i w l r d s (old hi) ih
  | right i w l r d s hi _ ih => exact .right i w l r d s (old hi) ih

/-- In a forest a leaf is no deeper below a node than the node's index. -/
theorem Forest.depth_le {nodes : List Node} {live : List Nat} (hf : Forest nodes live) {i d x : Nat}
    (h : LeafBelow nodes i d x) : d ≤ i := by
  induction h with
  | leaf => exact Nat.zero_le _
  | left i w l r d s hi _ ih =>
    have := (hf.childrenBefore i w l r hi).1
    omega
  | right i w l r d s hi _ ih =>
    have := (hf.childrenBefore i w l r hi).2
    omega

theorem Forest.merge {nodes : List Node} {live : List Nat} {a b : Nat} (hf : Forest nodes live) (ha : a ∈ live)
    (hb : b ∈ live.erase a) (w : Nat) :
    Forest (nodes ++ [.merged w a b]) ((live.erase a).erase b ++ [nodes.length]) where
  childrenBefore i w' l r hi := by
    by_cases hlt : i < nodes.length
    · exact hf.childrenBefore i w' l r (by rwa [List.getElem?_append_left hlt] at hi)
    · rw [List.getElem?_append_right (by omega)] at hi
      have hi0 : i - nodes.length = 0 := by
        have := (List.getElem?_eq_some_iff.mp hi).1
        simpa using this
      simp only [hi0, List.getElem?_cons_zero, Option.some.injEq, Node.merged.injEq] at hi
      obtain ⟨-, rfl, rfl⟩ := hi
      have := hf.liveInNode _ ha
      have := hf.liveInNode _ (List.mem_of_mem_erase hb)
      omega
  liveInNode i hi := by
    rw [List.length_append]
    rcases List.mem_append.mp hi with hi | hi
    · have := hf.liveInNode i (List.mem_of_mem_erase (List.mem_of_mem_erase hi))
      omega
    · simp only [List.mem_singleton] at hi
      simp [hi]

theorem Covered.merge {nodes : List Node} {live : List Nat} {x : Nat} (h : Covered nodes live x) (a b w : Nat) :
    Covered (nodes ++ [.merged w a b]) ((live.erase a).erase b ++ [nodes.length]) x := by
  obtain ⟨i, hi, d, hd⟩ := h
  have hd' := hd.append [.merged w a b]
  have parent : (nodes ++ [Node.merged w a b])[nodes.length]? = some (.merged w a b) := by simp
  by_cases hia : i = a
  · subst hia
    exact ⟨nodes.length, by simp, d + 1, .left _ _ _ _ _ _ parent hd'⟩
  · by_cases hib : i = b
    · subst hib
      exact ⟨nodes.length, by simp, d + 1, .right _ _ _ _ _ _ parent hd'⟩
    · exact ⟨i, List.mem_append_left _ ((List.mem_erase_of_ne hib).mpr ((List.mem_erase_of_ne hia).mpr hi)), d, hd'⟩

/-- Merging ends with one root, above every leaf that a live node was above (R128). -/
theorem mergeLoop_one_root (k : Nat) (nodes : List Node) (live : List Nat) (hf : Forest nodes live)
    (hne : live ≠ []) (hk : live.length ≤ k + 1) :
    ∃ nodes' root, mergeLoop k nodes live = (nodes', [root]) ∧ Forest nodes' [root] ∧
      ∀ x, Covered nodes live x → Covered nodes' [root] x := by
  have single {live : List Nat} (hne : live ≠ []) (h : live.length ≤ 1) : ∃ root, live = [root] :=
    List.length_eq_one_iff.mp (by have := List.length_pos_of_ne_nil hne; omega)
  induction k generalizing nodes live with
  | zero =>
    obtain ⟨root, rfl⟩ := single hne hk
    exact ⟨nodes, root, rfl, hf, fun _ h => h⟩
  | succ k ih =>
    by_cases h1 : live.length ≤ 1
    · obtain ⟨root, rfl⟩ := single hne h1
      exact ⟨nodes, root, rfl, hf, fun _ h => h⟩
    · obtain ⟨a, b, ha, hb, hm⟩ := mergeStep_of_two_live nodes (live := live) (by omega)
      have hlen : ((live.erase a).erase b ++ [nodes.length]).length + 1 = live.length := by
        have h1 := List.length_erase_of_mem ha
        have h2 := List.length_erase_of_mem hb
        rw [List.length_append, List.length_singleton]
        omega
      obtain ⟨nodes', root, hloop, hf', hcov⟩ := ih _ _
        (hf.merge ha hb (weightAt nodes a + weightAt nodes b)) (by simp) (by omega)
      refine ⟨nodes', root, ?_, hf', fun x hx => hcov x (hx.merge a b _)⟩
      simp only [mergeLoop, h1, if_false, hm, hloop]

theorem length_walk (nodes : List Node) (k i d : Nat) (u : List Nat) : (walk nodes k i d u).length = u.length := by
  induction k generalizing i d u with
  | zero => rfl
  | succ k ih =>
    rw [walk]
    split
    · rfl
    · simp
    · rw [ih, ih]

theorem getD_set_ne_zero {u : List Nat} {x y v : Nat} (hv : v ≠ 0) (hx : u.getD x 0 ≠ 0) :
    (u.set y v).getD x 0 ≠ 0 := by
  simp only [List.getD_eq_getElem?_getD, List.getElem?_set] at hx ⊢
  by_cases h : y = x
  · subst h
    by_cases hlt : y < u.length <;> simp_all
  · simpa [h] using hx

theorem getD_set_self_ne_zero {u : List Nat} {x v : Nat} (hv : v ≠ 0) (hx : x < u.length) :
    (u.set x v).getD x 0 ≠ 0 := by
  simpa [List.getD_eq_getElem?_getD, hx] using hv

/-- Below the root, a walk takes no length away. -/
theorem walk_keeps_ne_zero (nodes : List Node) (k i d : Nat) (u : List Nat) {x : Nat} (hd : d ≠ 0)
    (hx : u.getD x 0 ≠ 0) : (walk nodes k i d u).getD x 0 ≠ 0 := by
  induction k generalizing i d u with
  | zero => exact hx
  | succ k ih =>
    rw [walk]
    split
    · exact hx
    · exact getD_set_ne_zero hd hx
    · exact ih _ _ _ (by omega) (ih _ _ _ (by omega) hx)

/-- A walk that goes deep enough gives every leaf below the root a length (R129). -/
theorem walk_reaches {nodes : List Node} {i e x : Nat} (h : LeafBelow nodes i e x) {k d : Nat} {u : List Nat}
    (hk : e < k) (hd : d + e ≠ 0) (hx : x < u.length) : (walk nodes k i d u).getD x 0 ≠ 0 := by
  induction h generalizing k d u with
  | leaf i w s hi =>
    obtain ⟨k, rfl⟩ : ∃ m, k = m + 1 := ⟨k - 1, by omega⟩
    simp only [walk, hi]
    exact getD_set_self_ne_zero (by omega) hx
  | left i w l r e s hi _ ih =>
    obtain ⟨k, rfl⟩ : ∃ m, k = m + 1 := ⟨k - 1, by omega⟩
    simp only [walk, hi]
    exact walk_keeps_ne_zero _ _ _ _ _ (by omega) (ih (by omega) (by omega) hx)
  | right i w l r e s hi _ ih =>
    obtain ⟨k, rfl⟩ : ∃ m, k = m + 1 := ⟨k - 1, by omega⟩
    simp only [walk, hi]
    exact ih (by omega) (by omega) (by rwa [length_walk])

/-- The unlimited lengths of a tree give every symbol below the root a length (R129, R130). -/
theorem extract_ne_zero {nodes : List Node} {root size x : Nat} (hf : Forest nodes [root])
    (hx : Covered nodes [root] x) (hsize : x < size) : (extract nodes root size).getD x 0 ≠ 0 := by
  obtain ⟨i, hi, e, he⟩ := hx
  obtain rfl := List.mem_singleton.mp hi
  have hlen : x < (List.replicate size 0).length := by simpa using hsize
  have hdepth : e < nodes.length := Nat.lt_of_le_of_lt (hf.depth_le he) (hf.liveInNode i hi)
  cases he with
  | leaf _ w _ h =>
    simp only [extract, h]
    exact getD_set_self_ne_zero Nat.one_ne_zero hlen
  | left _ w l r d _ h hbelow =>
    simp only [extract, h]
    exact walk_reaches (.left i w l r d x h hbelow) hdepth (by omega) hlen
  | right _ w l r d _ h hbelow =>
    simp only [extract, h]
    exact walk_reaches (.right i w l r d x h hbelow) hdepth (by omega) hlen

/-- The leaves of a table form a forest of single nodes. -/
theorem leaves_forest (F : List Nat) : Forest (leaves F) (List.range (leaves F).length) where
  childrenBefore i w l r hi := by
    obtain ⟨e, -, he⟩ := List.mem_map.mp (List.mem_of_getElem? hi)
    cases he
  liveInNode i hi := List.mem_range.mp hi

theorem leaves_cover {F : List Nat} {x : Nat} (h : F.getD x 0 ≠ 0) :
    Covered (leaves F) (List.range (leaves F).length) x := by
  have hleaf : Node.leaf (F.getD x 0) x ∈ leaves F :=
    List.mem_map_of_mem (usedEntries_subset_leafEntries F (mem_usedEntries h))
  obtain ⟨i, hi, hget⟩ := List.getElem_of_mem hleaf
  exact ⟨i, List.mem_range.mpr hi, 0, .leaf i _ x (by rw [List.getElem?_eq_getElem hi, hget])⟩

end Sys2Proof.Machine
end

section
/-! PROOFS. The default limiter (R132) on any lengths: no length of its answer is above the limit, and with no more
symbols than codes of the limit exist, every symbol with a length keeps one. -/

namespace Sys2Proof.Machine

/-- The codes of length 1 to `M` counted with a weight for each length. -/
def weightedCount (w : Nat → Nat) (cnt : List Nat) (M : Nat) : Nat :=
  ((List.range M).map fun k => cnt.getD (k + 1) 0 * w (k + 1)).sum

/-- How many passes there can be: a code of length `l` can become `2 ^ (M - l)` codes of length `M`, one more at each
pass. -/
def slack (cnt : List Nat) (M : Nat) : Nat := weightedCount (fun l => 2 ^ (M - l) - 1) cnt M

/-- How many lengths are dealt. -/
def codeCount (cnt : List Nat) (M : Nat) : Nat := weightedCount (fun _ => 1) cnt M

theorem weightedCount_succ (w : Nat → Nat) (cnt : List Nat) (M : Nat) :
    weightedCount w cnt (M + 1) = weightedCount w cnt M + cnt.getD (M + 1) 0 * w (M + 1) := by
  simp [weightedCount, List.range_succ]

theorem weightedCount_set_of_lt (w : Nat → Nat) (cnt : List Nat) {M l : Nat} (v : Nat) (h : M < l) :
    weightedCount w (cnt.set l v) M = weightedCount w cnt M := by
  induction M with
  | zero => rfl
  | succ M ih =>
    rw [weightedCount_succ, weightedCount_succ, ih (by omega)]
    simp [List.getD_eq_getElem?_getD, show ¬ l = M + 1 by omega]

/-- Writing one count exchanges its summand. -/
theorem weightedCount_set (w : Nat → Nat) (cnt : List Nat) {M l : Nat} (v : Nat) (h1 : 1 ≤ l) (hM : l ≤ M)
    (hl : l < cnt.length) :
    weightedCount w (cnt.set l v) M + cnt.getD l 0 * w l = weightedCount w cnt M + v * w l := by
  induction M with
  | zero => omega
  | succ M ih =>
    rw [weightedCount_succ, weightedCount_succ]
    by_cases h : l = M + 1
    · subst h
      rw [weightedCount_set_of_lt w cnt v (Nat.lt_succ_self M)]
      simp [List.getD_eq_getElem?_getD, hl]
      omega
    · have := ih (by omega)
      simp only [List.getD_eq_getElem?_getD, List.getElem?_set, show ¬ l = M + 1 by omega, if_false] at this ⊢
      omega

/-- The scaled Kraft sum is the slack and one for each code. -/
theorem kraftScaled_eq (cnt : List Nat) (M : Nat) : kraftScaled cnt M = slack cnt M + codeCount cnt M := by
  have split : ∀ N, weightedCount (fun l => 2 ^ (M - l)) cnt N =
      weightedCount (fun l => 2 ^ (M - l) - 1) cnt N + weightedCount (fun _ => 1) cnt N := by
    intro N
    induction N with
    | zero => rfl
    | succ N ih =>
      have hpos := Nat.one_le_two_pow (n := M - (N + 1))
      have hmul : cnt.getD (N + 1) 0 * 2 ^ (M - (N + 1)) =
          cnt.getD (N + 1) 0 * (2 ^ (M - (N + 1)) - 1) + cnt.getD (N + 1) 0 * 1 := by
        rw [← Nat.mul_add, Nat.sub_add_cancel hpos]
      rw [weightedCount_succ, weightedCount_succ, weightedCount_succ, ih, hmul]
      omega
  exact split M

theorem longestShorter_some {cnt : List Nat} {M l : Nat} (h : longestShorter cnt M = some l) :
    1 ≤ l ∧ l < M ∧ 0 < cnt.getD l 0 := by
  have hmem := List.mem_of_find?_eq_some h
  have hpos := List.find?_some h
  simp only [List.mem_map, List.mem_reverse, List.mem_range] at hmem
  simp only [decide_eq_true_eq] at hpos
  exact ⟨by omega, by omega, hpos⟩

/-- Without a shorter code there is no slack. -/
theorem slack_of_no_shorter {cnt : List Nat} {M : Nat} (h : longestShorter cnt M = none) : slack cnt M = 0 := by
  refine List.sum_eq_zero fun y hy => ?_
  obtain ⟨k, hk, rfl⟩ := List.mem_map.mp hy
  have hkM := List.mem_range.mp hk
  by_cases hlast : k + 1 = M
  · simp [hlast]
  · have hzero := List.find?_eq_none.mp h (k + 1)
      (List.mem_map_of_mem (List.mem_reverse.mpr (List.mem_range.mpr (by omega))))
    simp only [decide_eq_true_eq, Nat.not_lt, Nat.le_zero] at hzero
    rw [hzero, Nat.zero_mul]

/-- One code of length `l` becomes two of the next length. -/
def lengthenOne (c : List Nat) (l : Nat) : List Nat :=
  (c.set l (c.getD l 0 - 1)).set (l + 1) ((c.set l (c.getD l 0 - 1)).getD (l + 1) 0 + 2)

theorem limitPass_eq (M : Nat) (cnt : List Nat) :
    limitPass M cnt = ((longestShorter (cnt.set M (cnt.getD M 0 - 1)) M).map
      (lengthenOne (cnt.set M (cnt.getD M 0 - 1)))).getD (cnt.set M (cnt.getD M 0 - 1)) := by
  simp only [limitPass]
  cases longestShorter (cnt.set M (cnt.getD M 0 - 1)) M <;> rfl

@[simp] theorem length_limitPass (M : Nat) (cnt : List Nat) : (limitPass M cnt).length = cnt.length := by
  rw [limitPass_eq]
  cases longestShorter (cnt.set M (cnt.getD M 0 - 1)) M <;> simp [lengthenOne]

theorem weightedCount_lengthenOne (w : Nat → Nat) {c : List Nat} {M l : Nat} (h1 : 1 ≤ l) (hlM : l < M)
    (hlen : c.length = M + 1) (hpos : 0 < c.getD l 0) :
    weightedCount w (lengthenOne c l) M + w l = weightedCount w c M + 2 * w (l + 1) := by
  have down := weightedCount_set w c (c.getD l 0 - 1) h1 (Nat.le_of_lt hlM) (by omega)
  have up := weightedCount_set w (c.set l (c.getD l 0 - 1)) ((c.set l (c.getD l 0 - 1)).getD (l + 1) 0 + 2)
    (Nat.le_add_left 1 l) hlM (by simp only [List.length_set]; omega)
  obtain ⟨m, hm⟩ : ∃ m, c.getD l 0 = m + 1 := ⟨c.getD l 0 - 1, by omega⟩
  rw [Nat.add_mul] at up
  rw [hm, Nat.add_sub_cancel, Nat.add_mul, Nat.one_mul] at down
  simp only [lengthenOne]
  rw [hm, Nat.add_sub_cancel] at up ⊢
  omega

/-- A pass with slack left uses one of it and loses no code: `cnt[M]` gives one up, the longest shorter one becomes
two. -/
theorem limitPass_counts {M : Nat} {cnt : List Nat} (hlen : cnt.length = M + 1) (hs : 0 < slack cnt M) :
    slack (limitPass M cnt) M + 1 = slack cnt M ∧ codeCount cnt M ≤ codeCount (limitPass M cnt) M := by
  have hM : 1 ≤ M := by
    rcases Nat.eq_zero_or_pos M with rfl | h
    · cases hs
    · exact h
  have dropped (w : Nat → Nat) := weightedCount_set w cnt (cnt.getD M 0 - 1) hM (Nat.le_refl M) (by omega)
  rw [limitPass_eq]
  have hclen : (cnt.set M (cnt.getD M 0 - 1)).length = M + 1 := by rw [List.length_set, hlen]
  generalize cnt.set M (cnt.getD M 0 - 1) = c at dropped hclen
  have hslack : slack c M = slack cnt M := by
    have := dropped fun l => 2 ^ (M - l) - 1
    simpa only [slack, Nat.sub_self, Nat.pow_zero, Nat.mul_zero, Nat.add_zero] using this
  have hcount : codeCount cnt M ≤ codeCount c M + 1 := by
    have := dropped fun _ => 1
    simp only [codeCount]
    omega
  cases hl : longestShorter c M with
  | none =>
    rw [slack_of_no_shorter hl] at hslack
    omega
  | some l =>
    obtain ⟨h1, hlM, hpos⟩ := longestShorter_some hl
    have hpow : 2 ^ (M - l) = 2 * 2 ^ (M - (l + 1)) := by
      rw [← Nat.pow_succ', show (M - (l + 1)).succ = M - l by omega]
    have := Nat.one_le_two_pow (n := M - (l + 1))
    have hused := weightedCount_lengthenOne (fun l => 2 ^ (M - l) - 1) h1 hlM hclen hpos
    have hgained := weightedCount_lengthenOne (fun _ => 1) h1 hlM hclen hpos
    simp only [slack, codeCount, Option.map_some, Option.getD_some] at *
    omega

theorem limitPasses_count {M : Nat} (k : Nat) {cnt : List Nat} (hlen : cnt.length = M + 1) (hk : k ≤ slack cnt M) :
    codeCount cnt M ≤ codeCount (limitPasses M k cnt) M := by
  induction k generalizing cnt with
  | zero => exact Nat.le_refl _
  | succ k ih =>
    obtain ⟨hs, hc⟩ := limitPass_counts hlen (by omega)
    exact Nat.le_trans hc (ih (by simpa using hlen) (by omega))

/-- A length between 1 and the limit is counted as itself, a longer one as the limit. -/
theorem getD_foldedCounts (U : List Nat) {M k : Nat} (hk : k < M) :
    (foldedCounts U M).getD (k + 1) 0 = U.countP fun x => decide (min x M = k + 1) := by
  have hget : (foldedCounts U M).getD (k + 1) 0 =
      if k + 1 = M then U.countP (fun x => decide (M ≤ x)) else U.count (k + 1) := by
    simp [foldedCounts, List.getD_eq_getElem?_getD, hk]
  rw [hget]
  split
  · refine List.countP_congr fun x _ => ?_
    simp only [decide_eq_true_eq]
    omega
  · refine List.countP_congr fun x _ => ?_
    simp only [beq_iff_eq, decide_eq_true_eq]
    omega

/-- Every used length is counted at exactly one of the places 1 to `M`. -/
theorem sum_countP_min (U : List Nat) {M : Nat} (hM : 1 ≤ M) :
    ((List.range M).map fun k => U.countP fun x => decide (min x M = k + 1)).sum =
      U.countP fun x => decide (0 < x) := by
  have place (y N : Nat) : ((List.range N).map fun k => if y = k + 1 then 1 else 0).sum =
      if 0 < y ∧ y ≤ N then 1 else 0 := by
    induction N with
    | zero => simp; omega
    | succ N ih =>
      simp only [List.range_succ, List.map_append, List.sum_append, ih, List.map_singleton, List.sum_singleton]
      split_ifs <;> omega
  induction U with
  | nil => simp
  | cons x U ih =>
    simp only [List.countP_cons, decide_eq_true_eq, List.sum_map_add, place, ih]
    split_ifs <;> omega

/-- Folding the too long codes into the limit keeps the number of codes. -/
theorem codeCount_foldedCounts (U : List Nat) {M : Nat} (hM : 1 ≤ M) :
    codeCount (foldedCounts U M) M = (usedEntries U).length := by
  have counts : codeCount (foldedCounts U M) M =
      ((List.range M).map fun k => U.countP fun x => decide (min x M = k + 1)).sum := by
    refine congrArg List.sum (List.map_congr_left fun k hk => ?_)
    rw [Nat.mul_one, getD_foldedCounts U (List.mem_range.mp hk)]
  rw [counts, sum_countP_min U hM, usedEntries, ← List.countP_eq_length_filter]
  conv_lhs => rw [← List.zipIdx_map_fst 0 U, List.countP_map]
  rfl

theorem length_dealtLengths (cnt : List Nat) (M : Nat) : (dealtLengths cnt M).length = codeCount cnt M := by
  simp [dealtLengths, codeCount, weightedCount, List.length_flatMap]

theorem mem_dealtLengths {cnt : List Nat} {M l : Nat} (h : l ∈ dealtLengths cnt M) : l ≠ 0 ∧ l ≤ M := by
  obtain ⟨k, hk, hl⟩ := List.mem_flatMap.mp h
  have := List.mem_range.mp hk
  obtain rfl := List.eq_of_mem_replicate hl
  omega

theorem insertByLength_perm (U : List Nat) (s : Nat) (ts : List Nat) : (insertByLength U s ts).Perm (s :: ts) := by
  induction ts with
  | nil => exact .refl _
  | cons t ts ih =>
    simp only [insertByLength]
    split
    · exact .refl _
    · exact (ih.cons t).trans (.swap s t ts)

/-- The order of the limiter lists the used symbols, each once. -/
theorem limitOrder_perm (U : List Nat) : (limitOrder U).Perm ((usedEntries U).map Prod.snd) := by
  unfold limitOrder
  induction (usedEntries U).map Prod.snd with
  | nil => exact .refl _
  | cons s ss ih => exact (insertByLength_perm U s _).trans (ih.cons s)

section Deal

variable {ps : List (Nat × Nat)} {L : List Nat}

theorem length_foldl_set : (ps.foldl (fun L x => L.set x.1 x.2) L).length = L.length := by
  induction ps generalizing L with
  | nil => rfl
  | cons p ps ih => simp [ih]

theorem foldl_set_le {M : Nat} (hps : ∀ p ∈ ps, p.2 ≤ M) (hL : ∀ l ∈ L, l ≤ M) :
    ∀ l ∈ ps.foldl (fun L x => L.set x.1 x.2) L, l ≤ M := by
  induction ps generalizing L with
  | nil => exact hL
  | cons p ps ih =>
    refine ih (fun q hq => hps q (by simp [hq])) fun l hl => ?_
    rcases List.mem_or_eq_of_mem_set hl with h | rfl
    · exact hL l h
    · exact hps p (by simp)

/-- Dealing positive lengths takes none away, and gives one to every symbol dealt to. -/
theorem foldl_set_ne_zero {x : Nat} (hps : ∀ p ∈ ps, p.2 ≠ 0) (hx : x < L.length)
    (h : L.getD x 0 ≠ 0 ∨ x ∈ ps.map Prod.fst) : (ps.foldl (fun L x => L.set x.1 x.2) L).getD x 0 ≠ 0 := by
  induction ps generalizing L with
  | nil => simpa using h
  | cons p ps ih =>
    have hp := hps p (by simp)
    refine ih (fun q hq => hps q (by simp [hq])) (by simpa using hx) ?_
    rcases h with h | h
    · exact .inl (getD_set_ne_zero hp h)
    · rcases List.mem_cons.mp h with rfl | h
      · exact .inl (getD_set_self_ne_zero hp hx)
      · exact .inr h

end Deal

theorem defaultLimiter_le (U : List Nat) (M : Nat) : ∀ l ∈ defaultLimiter U M, l ≤ M := by
  unfold defaultLimiter
  split
  · rename_i hall
    simpa using hall
  · refine foldl_set_le (fun p hp => ?_) (by simp)
    exact (mem_dealtLengths (List.of_mem_zip hp).2).2

@[simp] theorem length_defaultLimiter (U : List Nat) (M : Nat) : (defaultLimiter U M).length = U.length := by
  unfold defaultLimiter
  split
  · rfl
  · simp only [length_foldl_set, List.length_replicate]

/-- Where there are no more symbols than codes of the limit, the default limiter takes no symbol's length away. -/
theorem defaultLimiter_ne_zero {U : List Nat} {M x : Nat} (hM : 1 ≤ M) (hfew : U.length ≤ 2 ^ M)
    (hx : U.getD x 0 ≠ 0) : (defaultLimiter U M).getD x 0 ≠ 0 := by
  have hlt := lt_length_of_getD_ne_zero hx
  unfold defaultLimiter
  split
  · exact hx
  · have hused : codeCount (foldedCounts U M) M ≤ 2 ^ M := by
      rw [codeCount_foldedCounts U hM]
      have := List.length_filter_le (fun e : Nat × Nat => decide (0 < e.1)) U.zipIdx
      simp only [List.length_zipIdx] at this
      exact Nat.le_trans this hfew
    have hkept := limitPasses_count (kraftScaled (foldedCounts U M) M - 2 ^ M) (cnt := foldedCounts U M) (M := M)
      (by simp [foldedCounts]) (by rw [kraftScaled_eq]; omega)
    have henough : (limitOrder U).length ≤
        (dealtLengths (limitPasses M (kraftScaled (foldedCounts U M) M - 2 ^ M) (foldedCounts U M)) M).length := by
      rw [(limitOrder_perm U).length_eq, List.length_map, length_dealtLengths, ← codeCount_foldedCounts U hM]
      exact hkept
    refine foldl_set_ne_zero (fun p hp => (mem_dealtLengths (List.of_mem_zip hp).2).1) (by simpa using hlt) (.inr ?_)
    rw [List.map_fst_zip henough, (limitOrder_perm U).mem_iff]
    exact List.mem_map_of_mem (f := Prod.snd) (mem_usedEntries hx)

end Sys2Proof.Machine
end

section
/-! PROOFS. HUFF_BUILD (R125, R139) with the default limiter always answers: lengths within the limit, and one for every
used symbol. -/

namespace Sys2Proof.Machine

theorem length_extract (nodes : List Node) (root size : Nat) : (extract nodes root size).length = size := by
  unfold extract
  split <;> simp [length_walk]

theorem fit_of_length {size : Nat} {v : List Nat} (h : v.length = size) : fit size v = v := by
  simp [fit, ← h]

/-- Code lengths as the block needs them for a table of frequencies. -/
structure LengthsFor (a : Alphabet) (F L : List Nat) : Prop where
  size : L.length = a.size
  cap : ∀ l ∈ L, l ≤ a.maxLen
  used : ∀ x, F.getD x 0 ≠ 0 → L.getD x 0 ≠ 0

/-- An alphabet has no more symbols than codes of its longest length exist. -/
theorem alphabet_size_bounds (a : Alphabet) : 1 ≤ a.size ∧ 1 ≤ a.maxLen ∧ a.size ≤ 2 ^ a.maxLen := by
  cases a <;> decide

/-- The default limiter on the depths of the tree of a table. -/
theorem defaultLimiter_lengthsFor {a : Alphabet} {F U : List Nat} (hsize : U.length = a.size)
    (hU : ∀ x, F.getD x 0 ≠ 0 → U.getD x 0 ≠ 0) : LengthsFor a F (defaultLimiter U a.maxLen) where
  size := by rw [length_defaultLimiter, hsize]
  cap := defaultLimiter_le U a.maxLen
  used x hx := by
    obtain ⟨-, hmax, hfew⟩ := alphabet_size_bounds a
    exact defaultLimiter_ne_zero hmax (hsize ▸ hfew) (hU x hx)

theorem opHuffBuild_ok (a : Alphabet) (s : State) (h : (s.freq a).length = a.size) :
    ∃ node live u L, opHuffBuild params.limiter a s =
        .ok (({ s with node := node, live := live, u := u }.setLens a L).setCodes a
          (canonCodes L a.maxLen (s.codes a))) ∧
      LengthsFor a (s.freq a) L := by
  have hne : s.freq a ≠ [] := by
    intro hnil
    have := (alphabet_size_bounds a).1
    rw [hnil] at h
    exact absurd h (Nat.ne_of_lt this)
  obtain ⟨nodes, root, hmerge, hforest, hcov⟩ := mergeLoop_one_root (leaves (s.freq a)).length _ _
    (leaves_forest (s.freq a)) (by simpa using leaves_ne_nil hne) (by simp)
  have hU : ∀ x, (s.freq a).getD x 0 ≠ 0 → (extract nodes root a.size).getD x 0 ≠ 0 := fun x hx =>
    extract_ne_zero hforest (hcov x (leaves_cover hx)) (h ▸ lt_length_of_getD_ne_zero hx)
  have hL := defaultLimiter_lengthsFor (length_extract nodes root a.size) hU
  have hcheck : (defaultLimiter (extract nodes root a.size) a.maxLen).all (fun l => decide (l ≤ a.maxLen)) = true := by
    simpa using hL.cap
  refine ⟨nodes, [root], extract nodes root a.size, defaultLimiter (extract nodes root a.size) a.maxLen, ?_, hL⟩
  simp only [opHuffBuild, opHuffLeaves, opHuffMerge, List.length_range, hmerge, opHuffExtract, opHuffLimit, andThen_ok,
    params, fit_of_length (length_extract nodes root a.size), fit_of_length hL.size, checkLimit, State.lens_setLens,
    hcheck, if_true, opHuffCanon, State.codes_setLens]
  cases a <;> rfl

/-- A counted symbol of the alphabet has a code. -/
theorem LengthsFor.counted {a : Alphabet} {F L xs : List Nat} (h : LengthsFor a (xs.foldl bump F) L)
    (hF : F.length = a.size) {x : Nat} (hx : x ∈ xs) (hlt : x < a.size) : L.getD x 0 ≠ 0 :=
  h.used x (Nat.pos_iff_ne_zero.mp (foldl_bump_pos hx (hF ▸ hlt)))

end Sys2Proof.Machine
end

section
/-! PROOFS. CL_RLE (R140 to R144) on legal lengths: legal tuples, no more of them than lengths; and the sizes (R150 to
R152). -/

namespace Sys2Proof.Machine

theorem usedLength_le (L : List Nat) : usedLength L ≤ L.length := by
  induction L with
  | nil => exact Nat.le_refl _
  | cons x xs ih =>
    rw [usedLength, List.length_cons]
    split
    · split <;> omega
    · omega

theorem leadRun_le (v : Nat) (V : List Nat) : leadRun v V ≤ V.length := (List.takeWhile_sublist _).length_le

theorem literalTuple_wf {v : Nat} (h : v ≤ 15) : RleTuple.wf ⟨v, 0, 0⟩ = true := by
  have hv : metaExtra v = 0 := by
    unfold metaExtra
    split_ifs <;> omega
  simp [RleTuple.wf, hv]
  omega

theorem repeatTuple_wf {v : Nat} (h : v < 4) : RleTuple.wf ⟨16, 2, v⟩ = true := by
  simp [RleTuple.wf, metaExtra, h]

theorem shortZeroTuple_wf {v : Nat} (h : v < 8) : RleTuple.wf ⟨17, 3, v⟩ = true := by
  simp [RleTuple.wf, metaExtra, h]

theorem longZeroTuple_wf {v : Nat} (h : v < 128) : RleTuple.wf ⟨18, 7, v⟩ = true := by
  simp [RleTuple.wf, metaExtra, h]

/-- Legal tuples, at most `k` of them. -/
def TuplesWithin (k : Nat) (R : List RleTuple) : Prop := R.length ≤ k ∧ ∀ x ∈ R, x.wf = true

theorem TuplesWithin.cons {k : Nat} {x : RleTuple} {R : List RleTuple} (hx : x.wf = true) (hR : TuplesWithin k R) :
    TuplesWithin (k + 1) (x :: R) :=
  ⟨Nat.succ_le_succ hR.1, fun y hy => (List.mem_cons.mp hy).elim (fun h => h ▸ hx) (hR.2 y)⟩

theorem TuplesWithin.append {j k : Nat} {R Q : List RleTuple} (hR : TuplesWithin j R) (hQ : TuplesWithin k Q) :
    TuplesWithin (j + k) (R ++ Q) :=
  ⟨by rw [List.length_append]; exact Nat.add_le_add hR.1 hQ.1,
    fun y hy => (List.mem_append.mp hy).elim (hR.2 y) (hQ.2 y)⟩

theorem TuplesWithin.mono {j k : Nat} {R : List RleTuple} (hR : TuplesWithin j R) (h : j ≤ k) : TuplesWithin k R :=
  ⟨Nat.le_trans hR.1 h, hR.2⟩

theorem literals_within {v : Nat} (h : v ≤ 15) (r : Nat) : TuplesWithin r (List.replicate r ⟨v, 0, 0⟩) :=
  ⟨by simp, fun x hx => List.eq_of_mem_replicate hx ▸ literalTuple_wf h⟩

theorem zeroTuples_within (k run : Nat) : TuplesWithin run (zeroTuples k run) := by
  induction k generalizing run with
  | zero => exact ⟨Nat.zero_le _, by simp [zeroTuples]⟩
  | succ k ih =>
    rw [zeroTuples]
    split
    · exact ((ih _).cons (longZeroTuple_wf (by omega))).mono (by omega)
    · split
      · exact (TuplesWithin.cons (shortZeroTuple_wf (by omega)) ⟨Nat.le_refl _, by simp⟩).mono (by simp; omega)
      · exact literals_within (Nat.zero_le _) run

theorem repeatTuples_within {v : Nat} (hv : v ≤ 15) (k r : Nat) : TuplesWithin r (repeatTuples v k r) := by
  induction k generalizing r with
  | zero => exact ⟨Nat.zero_le _, by simp [repeatTuples]⟩
  | succ k ih =>
    rw [repeatTuples]
    split
    · exact ((ih _).cons (repeatTuple_wf (by omega))).mono (by omega)
    · exact literals_within hv r

theorem rleLoop_within (k : Nat) (V : List Nat) (hV : ∀ v ∈ V, v ≤ 15) : TuplesWithin V.length (rleLoop k V) := by
  induction k generalizing V with
  | zero => exact ⟨Nat.zero_le _, by simp [rleLoop]⟩
  | succ k ih =>
    cases V with
    | nil => exact ⟨Nat.le_refl _, by simp [rleLoop]⟩
    | cons v vs =>
      have rest (m : Nat) := ih (vs.drop m) fun x hx => hV x (List.mem_cons_of_mem _ (List.mem_of_mem_drop hx))
      simp only [List.length_drop] at rest
      rw [rleLoop]
      split
      · have := leadRun_le 0 vs
        exact ((zeroTuples_within _ _).append (rest _)).mono (by simp only [List.length_cons]; omega)
      · have := leadRun_le v vs
        have hv := hV v List.mem_cons_self
        exact (((repeatTuples_within hv _ _).append (rest _)).cons (literalTuple_wf hv)).mono
          (by simp only [List.length_cons]; omega)

/-- CL_RLE on lengths up to 15 answers legal tuples, at most one for each length (R26, R62). -/
theorem rleEncode_within {V : List Nat} (hV : ∀ v ∈ V, v ≤ 15) : TuplesWithin V.length (rleEncode V) :=
  rleLoop_within _ V hV

theorem RleTuple.symbol_lt {x : RleTuple} (h : x.wf = true) : x.symbol < 19 := by
  simp only [RleTuple.wf, Bool.and_eq_true, decide_eq_true_eq] at h
  exact h.1.1

theorem RleTuple.extra_le {x : RleTuple} (h : x.wf = true) : x.extra ≤ 7 := by
  simp only [RleTuple.wf, Bool.and_eq_true, decide_eq_true_eq] at h
  rw [h.1.2, metaExtra]
  split_ifs <;> omega

end Sys2Proof.Machine
end

section
/-! PROOFS. The coding phases (R167, phases 1 to 6) on an accepted input always answer, with all that the block is
written from. -/

namespace Sys2Proof.Machine

theorem andThen_of_ok {r : Result} {f : State → Result} {s t : State} (h : r = .ok s) (k : f s = .ok t) :
    andThen r f = .ok t := by
  rw [h, andThen_ok, k]

/-- Phases 1 to 4: the tokens and the codes of their symbols. -/
def tokenPhases (P : Config.Params) (s : State) : Result :=
  andThen (setPhase .lz77 s) fun s =>
  andThen (opLz77 P.maxInput s) fun s =>
  andThen (setPhase .tally s) fun s =>
  andThen (opTally s) fun s =>
  andThen (setPhase .huffLL s) fun s =>
  andThen (opHuffBuild P.limiter .ll s) fun s =>
  andThen (setPhase .huffDD s) (opHuffBuild P.limiter .dd)

/-- Phases 5 and 6: the tuples and the codes of their symbols. -/
def tuplePhases (P : Config.Params) (s : State) : Result :=
  andThen (setPhase .sizesRle s) fun s =>
  andThen (opSizeHlit s) fun s =>
  andThen (opSizeHdist s) fun s =>
  andThen (opClRle s) fun s =>
  andThen (setPhase .huffCL s) fun s =>
  andThen (opClTally s) fun s =>
  andThen (opHuffBuild P.limiter .cl s) opSizeHclen

theorem codingPhases_eq (P : Config.Params) (s : State) :
    codingPhases P s = andThen (tokenPhases P s) (tuplePhases P) := by
  simp only [codingPhases, tokenPhases, andThen_assoc]
  rfl

/-- After phase 4: legal tokens that span the input, all of whose symbols have a code. -/
structure TokensCoded (t : State) : Prop where
  noBits : t.bits = []
  tokens : ∀ x ∈ t.tok, x.wf = true ∧ TokenCoded t x
  spans : (t.tok.map Token.span).sum = t.n
  endOfBlock : t.lllen.getD 256 0 ≠ 0
  llLengths : t.lllen.length = 286 ∧ ∀ l ∈ t.lllen, l ≤ 15
  ddLengths : t.ddlen.length = 30 ∧ ∀ l ∈ t.ddlen, l ≤ 15
  clFrequencies : t.clf.length = Alphabet.cl.size

/-- After phase 6, what the writing phases need: also legal tuples all of whose symbols have a code, and the header
registers in range. -/
structure Coded (t : State) : Prop where
  noBits : t.bits = []
  tokens : ∀ x ∈ t.tok, x.wf = true ∧ TokenCoded t x
  spans : (t.tok.map Token.span).sum = t.n
  endOfBlock : t.lllen.getD 256 0 ≠ 0
  tuples : ∀ x ∈ t.rle, x.wf = true ∧ t.cllen.getD x.symbol 0 ≠ 0
  tupleCount : t.nrle ≤ 316
  hlitRange : 257 ≤ t.hlit ∧ t.hlit ≤ 286
  hdistRange : 1 ≤ t.hdist ∧ t.hdist ≤ 30
  hclenRange : 4 ≤ t.hclen ∧ t.hclen ≤ 19
  caps : ∀ a, ∀ l ∈ t.lens a, l ≤ a.maxLen

/-- The tallied symbols of the tokens have codes. -/
theorem tallied_tokens_coded {T : List Token} {llf ddf L D : List Nat} (hll : llf.length = 286) (hdd : ddf.length = 30)
    (hL : LengthsFor .ll ((T.filterMap Token.llSymbol ++ [256]).foldl bump llf) L)
    (hD : LengthsFor .dd ((T.filterMap Token.ddSymbol).foldl bump ddf) D) {x : Token} (hx : x ∈ T) :
    (∀ y, x.llSymbol = some y → L.getD y 0 ≠ 0) ∧ (∀ y, x.ddSymbol = some y → D.getD y 0 ≠ 0) :=
  ⟨fun _ hy => hL.counted hll (List.mem_append_left _ (List.mem_filterMap.mpr ⟨x, hx, hy⟩)) (llSymbol_lt hy),
    fun _ hy => hD.counted hdd (List.mem_filterMap.mpr ⟨x, hx, hy⟩) (ddSymbol_lt hy)⟩

theorem tokenPhases_ok (s : State) (hn : s.n ≤ Config.defaultMaxInput) (hbits : s.bits = [])
    (hfreq : ∀ a, (s.freq a).length = a.size) :
    ∃ t, tokenPhases params s = .ok t ∧ TokensCoded t ∧ t.n = s.n := by
  obtain ⟨T, hlz, hwf, hspan⟩ := opLz77_ok Config.defaultMaxInput { s with phase := .lz77 } hn
  have htally := opTally_ok { s with phase := .tally, tok := T, p := s.n } hwf
  obtain ⟨node1, live1, u1, L, hbuildLL, hL⟩ := opHuffBuild_ok .ll
    { s with phase := .huffLL, tok := T, p := s.n, ti := T.length
             llf := (T.filterMap Token.llSymbol ++ [256]).foldl bump s.llf
             ddf := (T.filterMap Token.ddSymbol).foldl bump s.ddf }
    (by simpa only [State.freq, length_foldl_bump] using hfreq .ll)
  obtain ⟨node2, live2, u2, D, hbuildDD, hD⟩ := opHuffBuild_ok .dd
    { s with phase := .huffDD, tok := T, p := s.n, ti := T.length
             llf := (T.filterMap Token.llSymbol ++ [256]).foldl bump s.llf
             ddf := (T.filterMap Token.ddSymbol).foldl bump s.ddf
             node := node1, live := live1, u := u1, lllen := L, llcode := canonCodes L 15 s.llcode }
    (by simpa only [State.freq, length_foldl_bump] using hfreq .dd)
  refine ⟨_, andThen_of_ok rfl <| andThen_of_ok hlz <| andThen_of_ok rfl <| andThen_of_ok htally <|
    andThen_of_ok rfl <| andThen_of_ok hbuildLL <| andThen_of_ok rfl hbuildDD, ?_, rfl⟩
  exact {
    noBits := hbits
    tokens := fun x hx => ⟨hwf x hx, tallied_tokens_coded (hfreq .ll) (hfreq .dd) hL hD hx⟩
    spans := hspan
    endOfBlock := hL.counted (hfreq .ll) (by simp) (by decide)
    llLengths := ⟨hL.size, hL.cap⟩
    ddLengths := ⟨hD.size, hD.cap⟩
    clFrequencies := hfreq .cl }

theorem tuplePhases_ok (s : State) (h : TokensCoded s) :
    ∃ t, tuplePhases params s = .ok t ∧ Coded t ∧ t.n = s.n := by
  obtain ⟨hlllen, hllcap⟩ := h.llLengths
  obtain ⟨hddlen, hddcap⟩ := h.ddLengths
  have hhlit : usedLength s.lllen ≤ 286 := hlllen ▸ usedLength_le s.lllen
  have hhdist : usedLength s.ddlen ≤ 30 := hddlen ▸ usedLength_le s.ddlen
  generalize hV : s.lllen.take (max 257 (usedLength s.lllen)) ++ s.ddlen.take (max 1 (usedLength s.ddlen)) = V
  have hVlen : V.length ≤ 316 := by
    simp only [← hV, List.length_append, List.length_take]
    omega
  have hVcap : ∀ v ∈ V, v ≤ 15 := by
    intro v hv
    rw [← hV] at hv
    rcases List.mem_append.mp hv with hv | hv
    · exact hllcap v (List.mem_of_mem_take hv)
    · exact hddcap v (List.mem_of_mem_take hv)
  obtain ⟨hcount, hwf⟩ := rleEncode_within hVcap
  have hrle : opClRle { s with phase := .sizesRle, hlit := max 257 (usedLength s.lllen)
                               hdist := max 1 (usedLength s.ddlen) } =
      .ok { s with phase := .sizesRle, hlit := max 257 (usedLength s.lllen), hdist := max 1 (usedLength s.ddlen)
                   rle := rleEncode V } := by
    simp only [opClRle, State.lengthVector, hV]
  have htally := opClTally_ok { s with phase := .huffCL, hlit := max 257 (usedLength s.lllen)
                                       hdist := max 1 (usedLength s.ddlen), rle := rleEncode V } hwf
  obtain ⟨node, live, u, C, hbuild, hC⟩ := opHuffBuild_ok .cl
    { s with phase := .huffCL, hlit := max 257 (usedLength s.lllen), hdist := max 1 (usedLength s.ddlen)
             rle := rleEncode V, ri := (rleEncode V).length
             clf := ((rleEncode V).map RleTuple.symbol).foldl bump s.clf }
    (by simpa only [State.freq, length_foldl_bump] using h.clFrequencies)
  have hhclen : usedLength (clOrder.map fun c => C.getD c 0) ≤ 19 := usedLength_le _
  refine ⟨_, andThen_of_ok rfl <| andThen_of_ok rfl <| andThen_of_ok rfl <| andThen_of_ok hrle <|
    andThen_of_ok rfl <| andThen_of_ok htally <| andThen_of_ok hbuild rfl, ?_, rfl⟩
  exact {
    noBits := h.noBits
    tokens := h.tokens
    spans := h.spans
    endOfBlock := h.endOfBlock
    tuples := fun x hx =>
      ⟨hwf x hx, hC.counted h.clFrequencies (List.mem_map_of_mem hx) (RleTuple.symbol_lt (hwf x hx))⟩
    tupleCount := Nat.le_trans hcount hVlen
    hlitRange := ⟨Nat.le_max_left _ _, Nat.max_le.mpr ⟨by decide, hhlit⟩⟩
    hdistRange := ⟨Nat.le_max_left _ _, Nat.max_le.mpr ⟨by decide, hhdist⟩⟩
    hclenRange := ⟨Nat.le_max_left _ _, Nat.max_le.mpr ⟨by decide, hhclen⟩⟩
    caps := fun a => match a with
      | .ll => hllcap
      | .dd => hddcap
      | .cl => hC.cap }

theorem codingPhases_ok (s : State) (hn : s.n ≤ Config.defaultMaxInput) (hbits : s.bits = [])
    (hfreq : ∀ a, (s.freq a).length = a.size) :
    ∃ t, codingPhases params s = .ok t ∧ Coded t ∧ t.n = s.n := by
  obtain ⟨t1, h1, hcoded, hn1⟩ := tokenPhases_ok s hn hbits hfreq
  obtain ⟨t, h2, ht, hn2⟩ := tuplePhases_ok t1 hcoded
  exact ⟨t, by rw [codingPhases_eq, h1, andThen_ok, h2], ht, hn2.trans hn1⟩

end Sys2Proof.Machine
end

section
/-! PROOFS. The sections of the block (R153 to R162): each write appends its section's bits and moves its cursor. -/

namespace Sys2Proof.Machine

theorem opWriteHeader_ok (s : State) (hlit : 257 ≤ s.hlit ∧ s.hlit ≤ 286) (hdist : 1 ≤ s.hdist ∧ s.hdist ≤ 30)
    (hclen : 4 ≤ s.hclen ∧ s.hclen ≤ 19) :
    opWriteHeader s = .ok (s.emit ([true] ++ [false, true] ++ lsbBits (s.hlit - 257) 5 ++ lsbBits (s.hdist - 1) 5 ++
      lsbBits (s.hclen - 4) 4)) := by
  have hrange : s.headerInRange = true := by simp [State.headerInRange, hlit, hdist, hclen]
  have hbtype : lsbBits 2 2 = [false, true] := rfl
  simp [opWriteHeader, hrange, opAppendBit, opAppendBitsLsb, hbtype]

/-- The bits of the meta code lengths of some symbols (R157). -/
def cllenBits (s : State) (cs : List Nat) : List Bit := cs.flatMap fun c => lsbBits (s.cllen.getD c 0) 3

theorem cllensLoop_ok (cs : List Nat) (s : State) :
    cllensLoop cs s = .ok ({ s with ci := s.ci + cs.length }.emit (cllenBits s cs)) := by
  induction cs generalizing s with
  | nil => simp [cllensLoop, cllenBits]
  | cons c cs ih =>
    simp only [cllensLoop, opAppendBitsLsb, andThen_ok, ih]
    simp [State.emit, cllenBits, Nat.add_assoc, Nat.add_comm 1]

theorem opWriteCllens_ok (s : State) :
    opWriteCllens s = .ok ({ s with ci := (clOrder.take s.hclen).length }.emit
      (cllenBits s (clOrder.take s.hclen))) := by
  simp only [opWriteCllens, cllensLoop_ok, Nat.zero_add]
  rfl

theorem writeTuple_ok {x : RleTuple} (s : State) (hwf : x.wf = true) (hcoded : s.cllen.getD x.symbol 0 ≠ 0) :
    writeTuple x s = .ok (s.emit (tupleBits s x)) := by
  rw [writeTuple, if_pos hwf]
  exact writeCoded_coded .cl _ _ _ s hcoded

theorem writeRleLoop_ok (xs : List RleTuple) (s : State)
    (h : ∀ x ∈ xs, x.wf = true ∧ s.cllen.getD x.symbol 0 ≠ 0) :
    writeRleLoop xs s = .ok ({ s with ri := s.ri + xs.length }.emit (xs.flatMap (tupleBits s))) := by
  induction xs generalizing s with
  | nil => simp [writeRleLoop]
  | cons x xs ih =>
    obtain ⟨hwf, hcoded⟩ := h x List.mem_cons_self
    simp only [writeRleLoop, writeTuple_ok s hwf hcoded, andThen_ok]
    refine (ih { s.emit (tupleBits s x) with ri := s.ri + 1 } fun y hy => h y (List.mem_cons_of_mem _ hy)).trans ?_
    simp [State.emit, Nat.add_assoc, Nat.add_comm 1]
    rfl

theorem opWriteRle_ok (s : State) (h : ∀ x ∈ s.rle, x.wf = true ∧ s.cllen.getD x.symbol 0 ≠ 0) :
    opWriteRle s = .ok ({ s with ri := s.nrle }.emit (s.rle.flatMap (tupleBits s))) := by
  simp only [opWriteRle, writeRleLoop_ok s.rle { s with ri := 0 } h, Nat.zero_add]
  rfl

theorem writeToken_ok {x : Token} (s : State) (hwf : x.wf = true) (hcoded : TokenCoded s x) :
    writeToken x s = .ok (s.emit (tokenBits s x)) := by
  obtain ⟨hll, hdd⟩ := hcoded
  rcases Token.wf_cases hwf with ⟨b, rfl⟩ | ⟨l, d, c, e, rfl, -, hc, he⟩
  · exact writeSymbol_coded .ll _ s (hll _ rfl)
  · have hlength := writeCoded_coded .ll c.code c.value c.extra s (hll _ (by simp [Token.llSymbol, hc]))
    have hdist := writeCoded_coded .dd e.code e.value e.extra (s.emit (lengthBits s c))
      (hdd _ (by simp [Token.ddSymbol, he]))
    simp only [writeToken, opWriteMatch, tokenBits, hc, he]
    rw [← State.emit_emit]
    exact andThen_of_ok hlength hdist

theorem writeTokensLoop_ok (xs : List Token) (s : State) (h : ∀ x ∈ xs, x.wf = true ∧ TokenCoded s x) :
    writeTokensLoop xs s = .ok ({ s with ti := s.ti + xs.length }.emit (xs.flatMap (tokenBits s))) := by
  induction xs generalizing s with
  | nil => simp [writeTokensLoop]
  | cons x xs ih =>
    obtain ⟨hwf, hcoded⟩ := h x List.mem_cons_self
    simp only [writeTokensLoop, writeToken_ok s hwf hcoded, andThen_ok]
    refine (ih { s.emit (tokenBits s x) with ti := s.ti + 1 } fun y hy => h y (List.mem_cons_of_mem _ hy)).trans ?_
    simp [State.emit, Nat.add_assoc, Nat.add_comm 1]
    rfl

theorem opWriteTokens_ok (s : State) (h : ∀ x ∈ s.tok, x.wf = true ∧ TokenCoded s x) :
    opWriteTokens s = .ok ({ s with ti := s.ntok }.emit (s.tok.flatMap (tokenBits s))) := by
  simp only [opWriteTokens, writeTokensLoop_ok s.tok { s with ti := 0 } h, Nat.zero_add]
  rfl

theorem opWriteEob_ok (s : State) (h : s.lllen.getD 256 0 ≠ 0) :
    opWriteEob s = .ok (s.emit (codeBits s.lllen s.llcode 256)) :=
  writeSymbol_coded .ll 256 s h

end Sys2Proof.Machine
end

section
/-! PROOFS. The whole block (R64, R167, phases 7 to 12): its sections in order, its size (R56), its bytes. -/

namespace Sys2Proof.Machine

/-- The sections of the block of a coded state, in order (R64). -/
def blockBits (t : State) : List Bit :=
  [true] ++ [false, true] ++ lsbBits (t.hlit - 257) 5 ++ lsbBits (t.hdist - 1) 5 ++
    lsbBits (t.hclen - 4) 4 ++ (clOrder.take t.hclen).flatMap (fun c => lsbBits (t.cllen.getD c 0) 3) ++
    t.rle.flatMap (tupleBits t) ++ t.tok.flatMap (tokenBits t) ++ codeBits t.lllen t.llcode 256

@[simp] theorem length_codeBits (L C : List Nat) (x : Nat) : (codeBits L C x).length = L.getD x 0 := length_msbBits _ _

theorem getD_le {L : List Nat} {m : Nat} (h : ∀ l ∈ L, l ≤ m) (x : Nat) : L.getD x 0 ≤ m := by
  by_cases hx : x < L.length
  · rw [List.getD_eq_getElem _ _ hx]
    exact h _ (List.getElem_mem hx)
  · rw [List.getD_eq_default _ _ (by omega)]
    exact Nat.zero_le m

theorem length_tupleBits_le {t : State} {x : RleTuple} (hcap : ∀ l ∈ t.cllen, l ≤ 7) (hwf : x.wf = true) :
    (tupleBits t x).length ≤ 14 := by
  have hcode := getD_le hcap x.symbol
  have hextra := RleTuple.extra_le hwf
  simp only [tupleBits, List.length_append, length_codeBits, length_lsbBits]
  omega

/-- A token takes at most 15 bits for each byte it stands for (R56). -/
theorem length_tokenBits_le {t : State} {x : Token} (hll : ∀ l ∈ t.lllen, l ≤ 15) (hdd : ∀ l ∈ t.ddlen, l ≤ 15)
    (hwf : x.wf = true) : (tokenBits t x).length ≤ 15 * x.span := by
  rcases Token.wf_cases hwf with ⟨b, rfl⟩ | ⟨l, d, c, e, rfl, hl3, hc, he⟩
  · have := getD_le hll b.toNat
    simpa [tokenBits, Token.span] using this
  · have := getD_le hll c.code
    have := getD_le hdd e.code
    have := (lengthLookup_bounds hc).2
    have := (distLookup_bounds he).2
    simp only [tokenBits, hc, he, lengthBits, distBits, List.length_append, length_codeBits, length_lsbBits, Token.span]
    omega

theorem length_flatMap_le {α : Type} {xs : List α} {f : α → List Bit} {w : α → Nat} {m : Nat}
    (h : ∀ x ∈ xs, (f x).length ≤ m * w x) : (xs.flatMap f).length ≤ m * (xs.map w).sum := by
  rw [List.length_flatMap, ← List.sum_map_mul_left]
  exact List.sum_le_sum h

/-- The bits of a block fit the bound of R56. -/
theorem length_blockBits_le {t : State} (h : Coded t) : (blockBits t).length ≤ Config.bitsBound t.n := by
  have hmeta : ((clOrder.take t.hclen).flatMap fun c => lsbBits (t.cllen.getD c 0) 3).length ≤ 3 * 19 := by
    have hlen : (clOrder.take t.hclen).length ≤ 19 := by simp [clOrder]
    simp only [List.length_flatMap, length_lsbBits, List.map_const', List.sum_replicate, smul_eq_mul]
    omega
  have htuples : (t.rle.flatMap (tupleBits t)).length ≤ 14 * 316 := by
    have := length_flatMap_le (f := tupleBits t) (w := fun _ => 1) (m := 14) fun x hx =>
      length_tupleBits_le (h.caps .cl) (h.tuples x hx).1
    have hcount : t.rle.length ≤ 316 := h.tupleCount
    simp only [List.map_const', List.sum_replicate, smul_eq_mul] at this
    omega
  have htokens : (t.tok.flatMap (tokenBits t)).length ≤ 15 * t.n := by
    rw [← h.spans]
    exact length_flatMap_le fun x hx => length_tokenBits_le (h.caps .ll) (h.caps .dd) (h.tokens x hx).1
  have heob := getD_le (h.caps .ll) 256
  simp only [blockBits, List.length_append, length_lsbBits, length_codeBits, List.length_cons, List.length_nil]
  simp only [State.lens, Alphabet.maxLen, Config.maxLenLLDD] at heob
  simp only [Config.bitsBound]
  omega

theorem bytes_fit_outMax {m n : Nat} (h : m ≤ n) : (Config.bitsBound m + 7) / 8 ≤ Config.outMax n := by
  simp only [Config.outMax, Config.bitsBound]
  omega

/-- FINALIZE on bits that fit `OUT` writes the packed bits (R94). -/
theorem opFinalize_ok (s : State) (hfit : (s.nbits + 7) / 8 ≤ Config.outMax Config.defaultMaxInput) :
    ∃ out, opFinalize Config.defaultMaxInput s = .ok { s with out := out, outLen := (s.nbits + 7) / 8 } ∧
      (List.range ((s.nbits + 7) / 8)).map (Memory.read out) = (bitsToBytes s.bits).map some := by
  obtain ⟨-, out, hwrite, hread, -, -⟩ | ⟨-, hover, -⟩ :=
    writeBytes_cases Config.defaultMaxInput 0 (bitsToBytes s.bits) s
  · refine ⟨out, by simp [opFinalize, hwrite], List.ext_getElem (by simp) fun k hk _ => ?_⟩
    have hlen : k < (bitsToBytes s.bits).length := by simpa using hk
    have hbyte := hread k hlen
    rw [List.getElem?_eq_getElem hlen, Nat.zero_add] at hbyte
    simpa using hbyte
  · rw [length_bitsToBytes, Nat.zero_add] at hover
    exact absurd hfit (Nat.not_le.mpr hover)

/-- The zero padding of the last byte changes no byte (R43, R46, R94). -/
theorem bitsToBytes_append_padBits (bs : List Bit) : bitsToBytes (bs ++ padBits bs.length) = bitsToBytes bs := by
  have hlen : ((bs ++ padBits bs.length).length + 7) / 8 = (bs.length + 7) / 8 := by
    simp only [padBits, List.length_append, List.length_replicate]
    omega
  have hbit (i : Nat) : (bs ++ padBits bs.length).getD i false = bs.getD i false := by
    by_cases hi : i < bs.length
    · rw [List.getD_append _ _ _ _ hi]
    · rw [List.getD_append_right _ _ _ _ (by omega), List.getD_eq_default bs _ (by omega), padBits]
      simp
  unfold bitsToBytes
  rw [hlen]
  refine List.map_congr_left fun k _ => ?_
  simp only [packByte_drop, hbit]

/-- A coded state after the writing phases, with the bytes of the block in `out`. -/
def State.written (s : State) (out : List Host.Cell) : State :=
  { s with phase := .finalize, ci := (clOrder.take s.hclen).length, ri := s.nrle, ti := s.ntok, bits := blockBits s
           out := out, outLen := ((blockBits s).length + 7) / 8 }

/-- The writing phases on a coded state append the block's sections and write its bytes. -/
theorem writingPhases_ok (s : State) (h : Coded s) (hn : s.n ≤ Config.defaultMaxInput) :
    ∃ out, writingPhases params s = .ok (s.written out) ∧
      (s.written out).outBytes = (bitsToBytes (blockBits s)).map some := by
  have hfit : ((blockBits s).length + 7) / 8 ≤ Config.outMax Config.defaultMaxInput :=
    Nat.le_trans (Nat.div_le_div_right (Nat.add_le_add_right (length_blockBits_le h) 7)) (bytes_fit_outMax hn)
  obtain ⟨out, hfinal, hbytes⟩ := opFinalize_ok { s with
    phase := .finalize, ci := (clOrder.take s.hclen).length, ri := s.nrle, ti := s.ntok, bits := blockBits s } hfit
  refine ⟨out, ?_, hbytes⟩
  refine andThen_of_ok rfl <| andThen_of_ok (opWriteHeader_ok _ h.hlitRange h.hdistRange h.hclenRange) <|
    andThen_of_ok rfl <| andThen_of_ok (opWriteCllens_ok _) <| andThen_of_ok rfl <|
    andThen_of_ok (opWriteRle_ok _ h.tuples) <| andThen_of_ok rfl <| andThen_of_ok (opWriteTokens_ok _ h.tokens) <|
    andThen_of_ok rfl <| andThen_of_ok (opWriteEob_ok _ h.endOfBlock) <| andThen_of_ok rfl <|
    (congrArg (opFinalize Config.defaultMaxInput) ?_).trans hfinal
  simp only [State.emit, h.noBits, List.nil_append]
  rfl

theorem State.length_freq_start (s : State) (a : Alphabet) : (s.start.freq a).length = a.size := by
  have hfreq : s.start.freq a = List.replicate a.size 0 := by cases a <;> rfl
  rw [hfreq, List.length_replicate]

/-- COMPRESS after a START with an accepted length makes a coded state and completes with its block written. -/
theorem opCompress_start_ok (s : State) (h : s.inLen.toNat ≤ Config.defaultMaxInput) :
    ∃ t out, opCompress params s.start = .ok (t.written out).complete ∧ Coded t ∧ t.n = s.inLen.toNat ∧
      (t.written out).outBytes = (bitsToBytes (blockBits t)).map some := by
  obtain ⟨t, hcoding, hcoded, hn⟩ := codingPhases_ok s.start h rfl s.length_freq_start
  obtain ⟨out, hwriting, hbytes⟩ := writingPhases_ok t hcoded (hn.symm ▸ h)
  have hsize : sizeCheck params.maxInput s.start = .ok s.start := if_neg (Nat.not_lt.mpr h)
  exact ⟨t, out, andThen_of_ok hsize <| andThen_of_ok hcoding <| andThen_of_ok hwriting rfl, hcoded, hn, hbytes⟩

/-- Settles O22: the coding phases make a coded state, the writing phases its block, and completion touches neither. -/
theorem outputIsOneDynamicBlock : Obligations.OutputIsOneDynamicBlock := by
  intro s hlen
  obtain ⟨t, out, hcompress, hcoded, hn, hbytes⟩ := opCompress_start_ok s hlen
  obtain ⟨hlitLo, hlitHi⟩ := hcoded.hlitRange
  obtain ⟨hdistLo, hdistHi⟩ := hcoded.hdistRange
  obtain ⟨hclenLo, hclenHi⟩ := hcoded.hclenRange
  have hbound : (blockBits t).length ≤ Config.bitsBound s.inLen.toNat := hn ▸ length_blockBits_le hcoded
  have hpadded : (t.written out).outBytes =
      (bitsToBytes (blockBits t ++ padBits (blockBits t).length)).map some := by
    rw [hbytes, bitsToBytes_append_padBits]
  exact ⟨(t.written out).complete, congrArg finish hcompress, rfl, hlitLo, hlitHi, hdistLo, hdistHi, hclenLo, hclenHi,
    hcoded.endOfBlock, hbound, hpadded⟩

end Sys2Proof.Machine
end

section
/-! PROOFS. The appends of the BitWriter (R91, R92, R93): the two bit orders bit by bit, and each append as `emit`. -/

namespace Sys2Proof.Machine

theorem getElem?_lsbBits (v : Nat) {n i : Nat} (hi : i < n) : (lsbBits v n)[i]? = some (v.testBit i) := by
  simp [lsbBits, hi]

theorem getElem?_msbBits (v : Nat) {n i : Nat} (hi : i < n) :
    (msbBits v n)[i]? = some (v.testBit (n - 1 - i)) := by
  induction n generalizing i with
  | zero => exact absurd hi (Nat.not_lt_zero i)
  | succ n ih =>
    cases i with
    | zero => simp [msbBits]
    | succ i =>
      have hindex : n + 1 - 1 - (i + 1) = n - 1 - i := by omega
      rw [msbBits, List.getElem?_cons_succ, ih (Nat.lt_of_succ_lt_succ hi), hindex]

theorem exec_appendBit (b : Bit) (s : State) : exec (.appendBit b) s = .next (s.emit [b]) := rfl

theorem exec_appendBitsLsb (v n : Nat) (s : State) :
    exec (.appendBitsLsb v n) s = .next (s.emit (lsbBits v n)) := rfl

theorem exec_appendBitsMsb (v n : Nat) (s : State) :
    exec (.appendBitsMsb v n) s = .next (s.emit (msbBits v n)) := rfl

/-- Settles O27: each append emits the bits of one order, which `getElem?_lsbBits` and `getElem?_msbBits` read. -/
theorem appendsAddTheirBitsInOrder : Obligations.AppendsAddTheirBitsInOrder := by
  intro s
  refine ⟨fun b => exec_appendBit b s, fun v n => ?lsb, fun v n => ?msb, rfl, fun _ _ => rfl, fun _ _ => rfl⟩
  case lsb => exact ⟨lsbBits v n, exec_appendBitsLsb v n s, length_lsbBits v n, fun _ => getElem?_lsbBits v⟩
  case msb => exact ⟨msbBits v n, exec_appendBitsMsb v n s, length_msbBits v n, fun _ => getElem?_msbBits v⟩

end Sys2Proof.Machine
end

section
/-! PROOFS. CL_RLE (R142, R143, R144) run by run: the greedy tuples of one run, the run a vector begins with, and the
rounds after it. -/

namespace Sys2Proof.Machine

/-- The first symbol 18 of a run of 138 zeros or more (R142). -/
theorem zeroRun_of_ge {z : Nat} (h : 138 ≤ z) : zeroRun z = ⟨18, 7, 127⟩ :: zeroRun (z - 138) := by
  obtain ⟨y, rfl⟩ := Nat.exists_eq_add_of_le' h
  simp [zeroRun, List.replicate_succ]

/-- What remains of a run below 138 zeros (R142). -/
theorem zeroRun_of_lt {z : Nat} (h : z < 138) : zeroRun z =
    if 11 ≤ z then [⟨18, 7, z - 11⟩] else if 3 ≤ z then [⟨17, 3, z - 3⟩] else List.replicate z ⟨0, 0, 0⟩ := by
  simp [zeroRun, Nat.mod_eq_of_lt h, Nat.div_eq_of_lt h]

@[simp] theorem zeroTuples_zero (k : Nat) : zeroTuples k 0 = [] := by cases k <;> rfl

theorem zeroTuples_eq_zeroRun {k z : Nat} (h : z ≤ k) : zeroTuples k z = zeroRun z := by
  induction k generalizing z with
  | zero =>
    obtain rfl : z = 0 := Nat.le_zero.mp h
    rfl
  | succ k ih =>
    rw [zeroTuples]
    by_cases hlong : 138 ≤ z
    · rw [if_pos (by omega), Nat.min_eq_right hlong, ih (by omega), zeroRun_of_ge hlong]
    · have hshort : z < 138 := Nat.lt_of_not_le hlong
      rw [zeroRun_of_lt hshort, Nat.min_eq_left hshort.le, Nat.sub_self, zeroTuples_zero]

/-- The first symbol 16 of 6 repeats or more (R143). -/
theorem valueRun_tail_of_ge (v : Nat) {r : Nat} (h : 6 ≤ r) :
    (valueRun v r).tail = ⟨16, 2, 3⟩ :: (valueRun v (r - 6)).tail := by
  obtain ⟨y, rfl⟩ := Nat.exists_eq_add_of_le' h
  simp [valueRun, List.replicate_succ]

/-- What remains below 6 repeats (R143). -/
theorem valueRun_tail_of_lt (v : Nat) {r : Nat} (h : r < 6) :
    (valueRun v r).tail = if 3 ≤ r then [⟨16, 2, r - 3⟩] else List.replicate r ⟨v, 0, 0⟩ := by
  simp [valueRun, Nat.mod_eq_of_lt h, Nat.div_eq_of_lt h]

@[simp] theorem repeatTuples_zero (v k : Nat) : repeatTuples v k 0 = [] := by cases k <;> rfl

theorem repeatTuples_eq_valueRun_tail (v : Nat) {k r : Nat} (h : r ≤ k) :
    repeatTuples v k r = (valueRun v r).tail := by
  induction k generalizing r with
  | zero =>
    obtain rfl : r = 0 := Nat.le_zero.mp h
    rfl
  | succ k ih =>
    rw [repeatTuples]
    by_cases hlong : 6 ≤ r
    · rw [if_pos (by omega), Nat.min_eq_right hlong, ih (by omega), valueRun_tail_of_ge v hlong]
    · have hshort : r < 6 := Nat.lt_of_not_le hlong
      rw [valueRun_tail_of_lt v hshort, Nat.min_eq_left hshort.le, Nat.sub_self, repeatTuples_zero]

/-- A maximal run ends where the vector after it begins (R144). -/
theorem leadRun_replicate_append {v : Nat} {V : List Nat} (h : V.head? ≠ some v) (r : Nat) :
    leadRun v (List.replicate r v ++ V) = r := by
  have hrest : V.takeWhile (fun x => x == v) = [] := by
    cases V with
    | nil => rfl
    | cons x xs => simpa using h
  rw [leadRun, List.takeWhile_append_of_pos (by simp), hrest]
  simp

/-- Every round consumes at least one entry, so rounds beyond the vector's length add nothing (R144). -/
theorem rleLoop_eq_rleEncode {k : Nat} {V : List Nat} (h : V.length ≤ k) : rleLoop k V = rleEncode V := by
  suffices hfuel : ∀ {j}, V.length ≤ j → rleLoop k V = rleLoop j V from hfuel le_rfl
  intro j hj
  induction k generalizing V j with
  | zero =>
    obtain rfl : V = [] := List.length_eq_zero_iff.mp (Nat.le_zero.mp h)
    cases j <;> rfl
  | succ k ih =>
    cases V with
    | nil => cases j <;> rfl
    | cons v vs =>
      obtain ⟨j, rfl⟩ : ∃ i, j = i + 1 := Nat.exists_eq_add_of_le' (Nat.le_trans (Nat.le_add_left 1 _) hj)
      have hrest (m : Nat) : rleLoop k (vs.drop m) = rleLoop j (vs.drop m) := by
        have hdrop : (vs.drop m).length ≤ vs.length := (List.drop_sublist m vs).length_le
        exact ih (Nat.le_trans hdrop (Nat.le_of_succ_le_succ h)) (Nat.le_trans hdrop (Nat.le_of_succ_le_succ hj))
      simp only [rleLoop, hrest]

/-- R142: a maximal run of zeros takes its greedy tuples, whatever follows it. -/
theorem rleEncode_zeros_append {z : Nat} (hz : 1 ≤ z) {V : List Nat} (hV : V.head? ≠ some 0) :
    rleEncode (List.replicate z 0 ++ V) = zeroRun z ++ rleEncode V := by
  obtain ⟨r, rfl⟩ := Nat.exists_eq_add_of_le' hz
  rw [rleEncode, List.replicate_succ, List.cons_append, List.length_cons, rleLoop, if_pos rfl,
    leadRun_replicate_append hV, zeroTuples_eq_zeroRun le_rfl, List.drop_left' (by simp),
    rleLoop_eq_rleEncode (by simp)]

/-- R143: a maximal run of a length above 0 takes its greedy tuples, whatever follows it. -/
theorem rleEncode_value_append {v : Nat} (hv : 1 ≤ v) (r : Nat) {V : List Nat} (hV : V.head? ≠ some v) :
    rleEncode (v :: (List.replicate r v ++ V)) = valueRun v r ++ rleEncode V := by
  rw [rleEncode, List.length_cons, rleLoop, if_neg (Nat.ne_of_gt hv), leadRun_replicate_append hV,
    repeatTuples_eq_valueRun_tail v le_rfl, List.drop_left' (by simp), rleLoop_eq_rleEncode (by simp)]
  rfl

theorem exec_clRle (s : State) : exec .clRle s = .next { s with rle := rleEncode s.lengthVector } := rfl

/-- Settles O46: CL_RLE answers `rleEncode`, which splits off the first run by `rleEncode_zeros_append` and
`rleEncode_value_append`. -/
theorem rleIsGreedy : Obligations.RleIsGreedy := by
  intro s s'
  refine ⟨rleEncode s'.lengthVector, exec_clRle s', fun hnil => ?nil, fun z hz hs hhead => ?zeros,
    fun v r hv hs hhead => ?value⟩
  case nil =>
    rw [exec_clRle, hnil]
    rfl
  case zeros => rw [exec_clRle, hs, rleEncode_zeros_append hz hhead]
  case value => rw [exec_clRle, hs, rleEncode_value_append hv r hhead]

end Sys2Proof.Machine
end

section
/-! PROOFS. A fixed-width field read back from the stream (R92, R155), and WRITE_HEADER field by field (R153 to R156). -/

namespace Sys2Proof.Machine

theorem lsbBits_succ (v n : Nat) : lsbBits v (n + 1) = v.testBit 0 :: lsbBits (v / 2) n := by
  simp [lsbBits, List.range_succ_eq_map, Nat.testBit_succ]

/-- The bits of APPEND_BITS_LSB (R92) are the number's residue. -/
theorem ofLsbBits_lsbBits (v n : Nat) : ofLsbBits (lsbBits v n) = v % 2 ^ n := by
  induction n generalizing v with
  | zero => simp [ofLsbBits, Nat.mod_one]
  | succ n ih =>
    calc ofLsbBits (lsbBits v (n + 1))
      _ = (v.testBit 0).toNat + 2 * (v / 2 % 2 ^ n) := by rw [lsbBits_succ, ofLsbBits, ih]
      _ = v % 2 + 2 * (v / 2 % 2 ^ n) := by rw [Nat.toNat_testBit, pow_zero, Nat.div_one]
      _ = v % 2 ^ (n + 1) := by rw [Nat.pow_succ', Nat.mod_mul]

/-- A field that begins at bit `k` reads as its value if the value fits. -/
theorem ofLsbBits_field {bs post : List Bit} {k n v : Nat} (hfield : bs.drop k = lsbBits v n ++ post)
    (hv : v < 2 ^ n) : ofLsbBits ((bs.drop k).take n) = v := by
  rw [hfield, List.take_left' (length_lsbBits v n), ofLsbBits_lsbBits, Nat.mod_eq_of_lt hv]

/-- Settles O49: the header's bits are those of `opWriteHeader_ok`, and each field of them reads back by
`ofLsbBits_field`. -/
theorem headerFields : Obligations.HeaderFields := by
  intro s hlit_ge hlit_le hdist_ge hdist_le hclen_ge hclen_le
  have hwrite := opWriteHeader_ok s ⟨hlit_ge, hlit_le⟩ ⟨hdist_ge, hdist_le⟩ ⟨hclen_ge, hclen_le⟩
  refine ⟨_, congrArg finish hwrite, rfl, rfl, rfl, ?hlit, ?hdist, ?hclen⟩
  case hlit => exact ofLsbBits_field (post := lsbBits (s.hdist - 1) 5 ++ lsbBits (s.hclen - 4) 4) rfl (by omega)
  case hdist => exact ofLsbBits_field (post := lsbBits (s.hclen - 4) 4) rfl (by omega)
  case hclen => exact ofLsbBits_field (post := []) rfl (by omega)

end Sys2Proof.Machine
end

section
/-! PROOFS. A turn of the host that makes a transaction: START while an operation runs (R196), and reset (R190, R36). -/

namespace Sys2Proof.Machine

/-- The host's turn takes precedence: the transaction is the whole step, and the engine does not move. -/
theorem step_act {s : State} {op : HostOp} {q : List HostTurn} (h : s.hostQ = .act op :: q) :
    step s = hostStep op { s with hostQ := q } := by
  simp only [step, h]

theorem hostStep_writeCtrl (v : RegWord) (s : State) :
    hostStep (.writeReg 0 v) s = .next (hostWriteCtrl v s) := rfl

theorem hostStep_reset (s : State) : hostStep .reset s = .next s.resetEvent := rfl

theorem hostWriteCtrl_of_busy (v : RegWord) {s : State} (h : s.busy = true) : hostWriteCtrl v s = s := by
  simp [hostWriteCtrl, h]

/-- Settles O12: the step is the host's write of `CTRL`, which BUSY=1 turns into no change. -/
theorem startWhileBusyIsIgnored : Obligations.StartWhileBusyIsIgnored := by
  intro s v q hbusy hq
  have hwrite : hostWriteCtrl v { s with hostQ := q } = { s with hostQ := q } := hostWriteCtrl_of_busy v hbusy
  rw [step_act hq, hostStep_writeCtrl, hwrite]

theorem resetValues_reset : ResetValues State.reset := by
  have tables (a : Alphabet) : State.reset.freq a = List.replicate a.size 0 ∧
      State.reset.lens a = List.replicate a.size 0 := by
    cases a <;> exact ⟨rfl, rfl⟩
  simp only [ResetValues, tables, and_self, implies_true, and_true]
  decide

/-- The reset event keeps of the state before it only the model's own fields, of which R36 says nothing. -/
theorem resetValues_resetEvent (s : State) : ResetValues s.resetEvent := resetValues_reset

/-- Settles O14: the step is the reset event, which leaves the starting state's values whatever was running. -/
theorem resetGivesEveryRegisterItsValue : Obligations.ResetGivesEveryRegisterItsValue := by
  refine ⟨resetValues_reset, fun s q hq => ?_⟩
  have hstep : step s = .next ({ s with hostQ := q } : State).resetEvent :=
    (step_act hq).trans (hostStep_reset _)
  exact ⟨_, hstep, resetValues_resetEvent _, rfl, rfl⟩

end Sys2Proof.Machine
end

section
/-! PROOFS. The operation words (R83; log entry 4): selector and operand of an instruction, and that the row of the
selector reads the instruction back from the operand. -/

namespace Sys2Proof.Machine

theorem selector_lt (i : Instr) : i.selector < 256 := by
  cases i <;> simp [Instr.selector]

theorem number_lt (a : Alphabet) : a.number < 3 := by
  cases a <;> decide

theorem operand_lt {i : Instr} (h : i.wf = true) : i.operand < 2 ^ 24 := by
  cases i <;> simp only [Instr.wf, Instr.operand, Bool.and_eq_true, decide_eq_true_eq] at h ⊢
  case appendBit b => have := b.toNat_lt; omega
  case huffLeaves a | huffExtract a | huffLimit a | huffCanon a | huffBuild a => have := number_lt a; omega
  all_goals omega

/-- A well-formed instruction's operand fits above its selector. -/
theorem toNat_encode {i : Instr} (h : i.wf = true) : (encode i).toNat = i.selector + 256 * i.operand := by
  have := operand_lt h
  have := selector_lt i
  simp only [encode, BitVec.toNat_ofNat]
  omega

/-- What decoding does with a selector and an operand. -/
def readWord (sel w : Nat) : Except DecodeError Instr := decodeNat (sel + 256 * w)

theorem decode_encode_eq {i : Instr} (h : i.wf = true) : decode (encode i) = readWord i.selector i.operand := by
  rw [decode, toNat_encode h, readWord]

theorem decode_eq_readWord (w : OpWord) : decode w = readWord (w.toNat % 256) (w.toNat / 256) := by
  rw [decode, readWord, Nat.mod_add_div]

theorem readWord_operation {sel : Nat} (hsel : sel < 64) (w : Nat) :
    readWord sel w = ((opRows.lookup sel).map fun read => read w).getD (.error .unassignedOpid) := by
  have hmod : (sel + 256 * w) % 256 = sel := by omega
  have hdiv : (sel + 256 * w) / 256 = w := by omega
  simp only [readWord, decodeNat, hmod, hdiv, hsel, if_true]
  cases opRows.lookup sel <;> rfl

theorem readWord_no_element {sel : Nat} (hsel : 64 ≤ sel) (hsel' : sel < 256) (hrow : elementRows[sel - 64]? = none)
    (w : Nat) : readWord sel w = .error .unassignedSelector := by
  have hmod : (sel + 256 * w) % 256 = sel := by omega
  simp only [readWord, decodeNat, hmod, Nat.not_lt.mpr hsel, if_false, hrow]

theorem readWord_element {sel k : Nat} {f : Nat → Instr} (hsel : 64 ≤ sel) (hsel' : sel < 256)
    (hrow : elementRows[sel - 64]? = some (k, f)) (w : Nat) : readWord sel w =
      if w < 2 ^ k then if (f w).wf then .ok (f w) else .error .neverEmitted else .error .reservedBits := by
  have hmod : (sel + 256 * w) % 256 = sel := by omega
  have hdiv : (sel + 256 * w) / 256 = w := by omega
  simp only [readWord, decodeNat, hmod, hdiv, Nat.not_lt.mpr hsel, if_false, hrow]

/-- The row of an element rebuilds it from its operand. -/
theorem elementRow_rebuilds {i : Instr} (h : 64 ≤ i.selector) :
    (elementRows[i.selector - 64]?).map (fun r => r.2 i.operand) = some i := by
  have same {n : Nat} (x : BitVec n) : BitVec.ofNat n x.toNat = x := by simp
  cases i
  case hlit x | hdist x | hclen x | cllenField x | cl16 x | cl17 x | cl18 x | literal x | len265 x | len266 x | len267 x
    | len268 x | len269 x | len270 x | len271 x | len272 x | len273 x | len274 x | len275 x | len276 x | len277 x
    | len278 x | len279 x | len280 x | len281 x | len282 x | len283 x | len284 x | dist4 x | dist5 x | dist6 x | dist7 x
    | dist8 x | dist9 x | dist10 x | dist11 x | dist12 x | dist13 x | dist14 x | dist15 x | dist16 x | dist17 x
    | dist18 x | dist19 x | dist20 x | dist21 x | dist22 x | dist23 x | dist24 x | dist25 x | dist26 x | dist27 x
    | dist28 x | dist29 x => exact congrArg some (congrArg _ (same x))
  case appendBit | appendBitsLsb | appendBitsMsb | finalize | lengthLookup | distLookup | lzSearch | lzStep | lz77 | tally
    | huffLeaves | huffMerge | huffExtract | huffLimit | huffCanon | huffBuild | clRle | clTally | sizeHlit | sizeHdist
    | sizeHclen | writeHeader | writeCllens | writeRle | writeLiteral | writeMatch | writeTokens | writeEob | compress =>
    exact absurd h (by simp only [Instr.selector]; decide)
  all_goals rfl

/-- A row's elements have the row's place above 64 as their selector. -/
theorem selector_elementRows (w : Nat) :
    elementRows.map (fun r => (r.2 w).selector) = (List.range 87).map (64 + ·) := rfl

/-- A row's elements have the operand they were made from, cut to the row's width. -/
theorem operand_elementRows (w : Nat) :
    elementRows.map (fun r => (r.2 w).operand) = elementRows.map fun r => if r.1 = 0 then 0 else w % 2 ^ r.1 := rfl

theorem selector_elementRow {j k : Nat} {f : Nat → Instr} (h : elementRows[j]? = some (k, f)) (w : Nat) :
    (f w).selector = 64 + j := by
  have hsel := congrArg (·[j]?) (selector_elementRows w)
  obtain ⟨hj, -⟩ := List.getElem?_eq_some_iff.mp h
  have hj : j < 87 := hj
  simpa [h, hj] using hsel

theorem operand_elementRow {j k : Nat} {f : Nat → Instr} (h : elementRows[j]? = some (k, f)) {w : Nat} (hw : w < 2 ^ k) :
    (f w).operand = w := by
  have hop := congrArg (·[j]?) (operand_elementRows w)
  simp only [List.getElem?_map, h, Option.map_some, Option.some.injEq] at hop
  rw [hop]
  split
  next hk => subst hk; omega
  next => exact Nat.mod_eq_of_lt hw

/-- An element's operand fits its row. -/
theorem elementRow_of_element {i : Instr} (h : 64 ≤ i.selector) :
    ∃ k f, elementRows[i.selector - 64]? = some (k, f) ∧ i.operand < 2 ^ k ∧ f i.operand = i := by
  obtain ⟨⟨k, f⟩, hrow, hf⟩ := Option.map_eq_some_iff.mp (elementRow_rebuilds h)
  have hf : f i.operand = i := hf
  refine ⟨k, f, hrow, ?_, hf⟩
  have hop := congrArg (·[i.selector - 64]?) (operand_elementRows i.operand)
  simp only [List.getElem?_map, hrow, Option.map_some, Option.some.injEq, hf] at hop
  rw [hop]
  split
  · exact Nat.two_pow_pos k
  · exact Nat.mod_lt _ (Nat.two_pow_pos k)

theorem readWord_of_element {i : Instr} (hsel : 64 ≤ i.selector) (hwf : i.wf = true) :
    readWord i.selector i.operand = .ok i := by
  obtain ⟨k, f, hrow, hlt, hf⟩ := elementRow_of_element hsel
  simp only [readWord_element hsel (selector_lt i) hrow, hf, hlt, if_true, hwf]

theorem alphabetOperand_number (f : Alphabet → Instr) (a : Alphabet) : alphabetOperand f a.number = .ok (f a) := by
  cases a <;> rfl

theorem countOperand_fields {f : Nat → Nat → Instr} {v n : Nat} (hv : v < 65536) (hn : n ≤ 16) :
    countOperand f (v + 65536 * n) = .ok (f v n) := by
  have hmod : (v + 65536 * n) % 65536 = v := by omega
  have hdiv : (v + 65536 * n) / 65536 = n := by omega
  simp only [countOperand, hmod, hdiv, hn, if_true]

theorem matchOperand_fields {f : Nat → Nat → Instr} {l d : Nat} (hl : 3 ≤ l ∧ l ≤ 258) (hd : 1 ≤ d ∧ d ≤ 32768) :
    matchOperand f (d - 1 + 32768 * (l - 3)) = .ok (f l d) := by
  have hlt : d - 1 + 32768 * (l - 3) < 2 ^ 23 := by omega
  have hmod : (d - 1 + 32768 * (l - 3)) % 32768 + 1 = d := by omega
  have hdiv : (d - 1 + 32768 * (l - 3)) / 32768 + 3 = l := by omega
  simp only [matchOperand, hmod, hdiv, hlt, if_true]

theorem fieldOperand_lt {k : Nat} {f : Nat → Instr} {w : Nat} (h : w < 2 ^ k) : fieldOperand k f w = .ok (f w) :=
  if_pos h

theorem readWord_of_operation {i : Instr} (hsel : i.selector < 64) (hwf : i.wf = true) :
    readWord i.selector i.operand = .ok i := by
  rw [readWord_operation hsel]
  cases i
  case appendBit b => cases b <;> rfl
  case appendBitsLsb v n | appendBitsMsb v n =>
    simp only [Instr.wf, Bool.and_eq_true, decide_eq_true_eq] at hwf
    exact countOperand_fields hwf.1 hwf.2
  case lengthLookup l =>
    simp only [Instr.wf, Bool.and_eq_true, decide_eq_true_eq] at hwf
    have hl : l - 3 + 3 = l := by omega
    have hrow : fieldOperand 8 (fun w => .lengthLookup (w + 3)) (l - 3) = .ok (.lengthLookup (l - 3 + 3)) :=
      fieldOperand_lt (by omega)
    rwa [hl] at hrow
  case distLookup d =>
    simp only [Instr.wf, Bool.and_eq_true, decide_eq_true_eq] at hwf
    have hd : d - 1 + 1 = d := by omega
    have hrow : fieldOperand 15 (fun w => .distLookup (w + 1)) (d - 1) = .ok (.distLookup (d - 1 + 1)) :=
      fieldOperand_lt (by omega)
    rwa [hd] at hrow
  case huffLeaves a | huffExtract a | huffLimit a | huffCanon a | huffBuild a => exact alphabetOperand_number _ a
  case writeLiteral b =>
    have hb : BitVec.ofNat 8 b.toNat = b := by simp
    have hrow : fieldOperand 8 (fun w => .writeLiteral (BitVec.ofNat 8 w)) b.toNat = .ok (.writeLiteral _) :=
      fieldOperand_lt b.isLt
    rwa [hb] at hrow
  case writeMatch l d =>
    simp only [Instr.wf, Bool.and_eq_true, decide_eq_true_eq] at hwf
    obtain ⟨⟨⟨hl3, hl⟩, hd1⟩, hd⟩ := hwf
    exact matchOperand_fields ⟨hl3, hl⟩ ⟨hd1, hd⟩
  case finalize | lzSearch | lzStep | lz77 | tally | huffMerge | clRle | clTally | sizeHlit | sizeHdist | sizeHclen
    | writeHeader | writeCllens | writeRle | writeTokens | writeEob | compress => rfl
  all_goals exact absurd hsel (by simp only [Instr.selector]; decide)

theorem decode_encode {i : Instr} (h : i.wf = true) : decode (encode i) = .ok i := by
  rw [decode_encode_eq h]
  rcases Nat.lt_or_ge i.selector 64 with hsel | hsel
  · exact readWord_of_operation hsel h
  · exact readWord_of_element hsel h

/-- Settles O58: the word splits into selector and operand, and the selector's row reads the operand back. -/
theorem decodeOfEncode : Obligations.DecodeOfEncode := fun _ => decode_encode

/-- Every instruction that an operation row reads from `w` has the row's OPID and the operand `w`, and is well
formed. -/
def ReadsBack (row : Nat × (Nat → Except DecodeError Instr)) : Prop :=
  ∀ w i, row.2 w = .ok i → i.selector = row.1 ∧ i.operand = w ∧ i.wf = true

theorem noOperand_readsBack {sel : Nat} {i : Instr} (hsel : i.selector = sel) (hop : i.operand = 0)
    (hwf : i.wf = true) : ReadsBack (sel, noOperand i) := by
  intro w j h
  simp only [noOperand] at h
  split at h
  next hw => cases h; exact ⟨hsel, hop.trans hw.symm, hwf⟩
  next => cases h

theorem fieldOperand_readsBack {sel k : Nat} {f : Nat → Instr}
    (hf : ∀ w < 2 ^ k, (f w).selector = sel ∧ (f w).operand = w ∧ (f w).wf = true) :
    ReadsBack (sel, fieldOperand k f) := by
  intro w j h
  simp only [fieldOperand] at h
  split at h
  next hw => cases h; exact hf w hw
  next => cases h

theorem alphabetOperand_readsBack {sel : Nat} {f : Alphabet → Instr}
    (hf : ∀ a, (f a).selector = sel ∧ (f a).operand = a.number ∧ (f a).wf = true) :
    ReadsBack (sel, alphabetOperand f) := by
  intro w j h
  simp only [alphabetOperand] at h
  split_ifs at h with h0 h1 h2
  · cases h; subst h0; exact hf .ll
  · cases h; subst h1; exact hf .dd
  · cases h; subst h2; exact hf .cl

theorem countOperand_readsBack {sel : Nat} {f : Nat → Nat → Instr}
    (hf : ∀ v < 65536, ∀ n ≤ 16, (f v n).selector = sel ∧ (f v n).operand = v + 65536 * n ∧ (f v n).wf = true) :
    ReadsBack (sel, countOperand f) := by
  intro w j h
  simp only [countOperand] at h
  split at h
  next hn =>
    cases h
    have := hf (w % 65536) (Nat.mod_lt _ (by decide)) (w / 65536) hn
    rwa [Nat.mod_add_div] at this
  next => cases h

theorem matchOperand_readsBack : ReadsBack (0x37, matchOperand .writeMatch) := by
  intro w j h
  simp only [matchOperand] at h
  split at h
  next hw =>
    cases h
    refine ⟨rfl, ?_, ?_⟩
    · simp only [Instr.operand]; omega
    · simp only [Instr.wf, Bool.and_eq_true, decide_eq_true_eq]; omega
  next => cases h

theorem opRows_readBack : ∀ row ∈ opRows, ReadsBack row := by
  have plain {sel : Nat} {i : Instr} (hsel : i.selector = sel) (hop : i.operand = 0) (hwf : i.wf = true) :
      ReadsBack (sel, noOperand i) := noOperand_readsBack hsel hop hwf
  have append {v n : Nat} (hv : v < 65536) (hn : n ≤ 16) : (decide (v < 65536) && decide (n ≤ 16)) = true := by
    simp [hv, hn]
  simp only [opRows, List.cons_append, List.nil_append, List.forall_mem_cons, List.not_mem_nil, false_imp_iff,
    implies_true, and_true]
  refine ⟨fieldOperand_readsBack fun w hw => ⟨rfl, ?_, rfl⟩,
    countOperand_readsBack fun v hv n hn => ⟨rfl, rfl, append hv hn⟩,
    countOperand_readsBack fun v hv n hn => ⟨rfl, rfl, append hv hn⟩,
    plain rfl rfl rfl,
    fieldOperand_readsBack fun w hw => ⟨rfl, rfl, ?_⟩,
    fieldOperand_readsBack fun w hw => ⟨rfl, rfl, ?_⟩,
    plain rfl rfl rfl, plain rfl rfl rfl, plain rfl rfl rfl, plain rfl rfl rfl,
    alphabetOperand_readsBack fun a => ⟨rfl, rfl, rfl⟩, plain rfl rfl rfl,
    alphabetOperand_readsBack fun a => ⟨rfl, rfl, rfl⟩, alphabetOperand_readsBack fun a => ⟨rfl, rfl, rfl⟩,
    alphabetOperand_readsBack fun a => ⟨rfl, rfl, rfl⟩, alphabetOperand_readsBack fun a => ⟨rfl, rfl, rfl⟩,
    plain rfl rfl rfl, plain rfl rfl rfl, plain rfl rfl rfl, plain rfl rfl rfl, plain rfl rfl rfl, plain rfl rfl rfl,
    plain rfl rfl rfl, plain rfl rfl rfl,
    fieldOperand_readsBack fun w hw => ⟨rfl, ?_, rfl⟩,
    matchOperand_readsBack, plain rfl rfl rfl, plain rfl rfl rfl, plain rfl rfl rfl⟩
  case refine_1 =>
    have hbit : w = 0 ∨ w = 1 := by omega
    rcases hbit with rfl | rfl <;> rfl
  case refine_2 => simp only [Instr.wf, Bool.and_eq_true, decide_eq_true_eq]; omega
  case refine_3 => simp only [Instr.wf, Bool.and_eq_true, decide_eq_true_eq]; omega
  case refine_4 => exact Nat.mod_eq_of_lt hw

theorem mem_opRows_of_lookup {sel : Nat} {read : Nat → Except DecodeError Instr} (h : opRows.lookup sel = some read) :
    (sel, read) ∈ opRows := by
  obtain ⟨rows, rows', hrows, -⟩ := List.lookup_eq_some_iff.mp h
  rw [hrows]
  exact List.mem_append_right _ List.mem_cons_self

/-- What a word reads as has its selector and operand, and is well formed. -/
theorem readWord_readsBack {sel w : Nat} {i : Instr} (hsel : sel < 256) (h : readWord sel w = .ok i) :
    i.selector = sel ∧ i.operand = w ∧ i.wf = true := by
  rcases Nat.lt_or_ge sel 64 with hop | helem
  · rw [readWord_operation hop] at h
    cases hrow : opRows.lookup sel with
    | none => simp [hrow] at h
    | some read => exact opRows_readBack _ (mem_opRows_of_lookup hrow) w i (by simpa [hrow] using h)
  · cases hrow : elementRows[sel - 64]? with
    | none => simp [readWord_no_element helem hsel hrow] at h
    | some r =>
      obtain ⟨k, f⟩ := r
      rw [readWord_element helem hsel hrow] at h
      split_ifs at h with hw hwf
      obtain rfl := Except.ok.inj h
      refine ⟨?_, operand_elementRow hrow hw, hwf⟩
      rw [selector_elementRow hrow, Nat.add_sub_cancel' helem]

/-- Settles O59: what a word reads as has the word's selector and operand, of which its word is made. -/
theorem encodeOfDecode : Obligations.EncodeOfDecode := by
  intro w i h
  rw [decode_eq_readWord] at h
  obtain ⟨hsel, hop, hwf⟩ := readWord_readsBack (Nat.mod_lt _ (by decide)) h
  refine ⟨hwf, BitVec.eq_of_toNat_eq ?_⟩
  rw [toNat_encode hwf, hsel, hop, Nat.mod_add_div]

/-- Settles O57: the 6-bit words are few, and each is read by its row. -/
theorem opidsDecodeToTheirOperations : Obligations.OpidsDecodeToTheirOperations := by
  refine ⟨rfl, rfl, rfl, ?_⟩
  decide

end Sys2Proof.Machine
end

section
/-! PROOFS. The elements of the stream (R65 to R76): the form of each, its row in the table, and what executing it
does. -/

namespace Sys2Proof.Machine

/-- A field element runs as the append of its field; the values that are never emitted are not well formed (R65). -/
theorem exec_field {i : Instr} {v n : Nat} (s : State) (h : i.element? = some (.field v n)) (hwf : i.wf = true) :
    exec i s = .next (s.emit (lsbBits v n)) := by
  have field {v n top : Nat} (hv : v ≤ top) : finish (writeField v n top s) = .next (s.emit (lsbBits v n)) := by
    rw [writeField_inRange v n top s hv, finish_ok]
  cases i <;> simp only [Instr.element?, reduceCtorEq, Option.some.injEq, Element.field.injEq] at h
  all_goals obtain ⟨rfl, rfl⟩ := h
  case bfinal | btype => rfl
  case hlit a | hdist a => exact field (of_decide_eq_true hwf)
  case hclen c => exact field (Nat.le_of_lt_succ c.isLt)
  case cllenField d => exact field (Nat.le_of_lt_succ d.isLt)

theorem writeCoded_no_extra (a : Alphabet) (x : Nat) (s : State) : writeCoded a x 0 0 s = writeSymbol a x s := by
  unfold writeCoded writeSymbol
  split <;> simp [opAppendBitsLsb, opAppendBitsMsb]

/-- A coded element runs as the write of its symbol and extra bits; code 284 with extra value 31 is not well formed
(R81). -/
theorem exec_coded {i : Instr} {a : Alphabet} {x v n : Nat} (s : State) (h : i.element? = some (.coded a x v n))
    (hwf : i.wf = true) : exec i s = finish (writeCoded a x v n s) := by
  cases i <;> simp only [Instr.element?, reduceCtorEq, Option.some.injEq, Element.coded.injEq] at h
  all_goals obtain ⟨rfl, rfl, rfl, rfl⟩ := h
  case literal b | eob => rw [writeCoded_no_extra]; rfl
  case len284 y => exact congrArg finish (if_neg (of_decide_eq_true hwf))
  all_goals rfl

/-- The one coded element that is not well formed raises Internal (R81, R82). -/
theorem exec_coded_of_not_wf {i : Instr} {a : Alphabet} {x v n : Nat} (s : State)
    (h : i.element? = some (.coded a x v n)) (hwf : i.wf = false) : exec i s = .next (s.errorEntry .internal) := by
  cases i <;> simp only [Instr.element?, Option.some.injEq, reduceCtorEq] at h <;>
    simp only [Instr.wf, Bool.true_eq_false] at hwf
  case len284 y =>
    have hy : y.toNat = 31 := not_not.mp (of_decide_eq_false hwf)
    exact congrArg finish (if_pos hy)

/-- Settles O54: a field element is `writeField` of a value in range. -/
theorem fieldElementsAppendTheirField : Obligations.FieldElementsAppendTheirField :=
  fun _ _ _ s h hwf => exec_field s h hwf

/-- Settles O55: a coded element is `writeCoded` of its symbol, which has a code. -/
theorem codedElementsAppendCodeThenExtra : Obligations.CodedElementsAppendCodeThenExtra := by
  intro i a x v n s h hwf hcode
  rw [exec_coded s h hwf, writeCoded_coded a x v n s hcode]
  rfl

/-- A coded element other than a literal stands in the table at its symbol's place, its operand is the extra value, and
its row is as wide as its extra bits. -/
theorem coded_row {i : Instr} {a : Alphabet} {x v n : Nat} (h : i.element? = some (.coded a x v n))
    (hlit : ∀ b, i ≠ .literal b) : elementIndex a x = some (i.selector - 64) ∧ 64 ≤ i.selector ∧ i.operand = v ∧
      (elementRows[i.selector - 64]?).map Prod.fst = some n := by
  cases i <;> simp only [Instr.element?, reduceCtorEq, Option.some.injEq, Element.coded.injEq] at h
  case literal b => exact absurd rfl (hlit b)
  all_goals
    obtain ⟨rfl, rfl, rfl, rfl⟩ := h
    exact ⟨rfl, by simp only [Instr.selector]; decide, rfl, rfl⟩

/-- The row of a coded element other than a literal makes it from its extra value. -/
theorem row_of_coded {i : Instr} {a : Alphabet} {x v n : Nat} (h : i.element? = some (.coded a x v n))
    (hlit : ∀ b, i ≠ .literal b) :
    ∃ f, (elementIndex a x).bind (elementRows[·]?) = some (n, f) ∧ f v = i ∧ v < 2 ^ n := by
  obtain ⟨hindex, hsel, rfl, hwidth⟩ := coded_row h hlit
  obtain ⟨k, f, hrow, hlt, hf⟩ := elementRow_of_element hsel
  obtain rfl : k = n := by simpa [hrow] using hwidth
  exact ⟨f, by rw [hindex, Option.bind_some, hrow], hf, hlt⟩

theorem extra_lt_of_coded {i : Instr} {a : Alphabet} {x v n : Nat} (h : i.element? = some (.coded a x v n)) :
    v < 2 ^ n := by
  by_cases hlit : ∃ b, i = .literal b
  · obtain ⟨b, rfl⟩ := hlit
    cases h
    decide
  · obtain ⟨f, -, -, hlt⟩ := row_of_coded h fun b hb => hlit ⟨b, hb⟩
    exact hlt

/-- A coded element's symbol is of its alphabet, and its extra-bit count is its symbol's (R62, R72, R76, R102, R104). -/
theorem symbol_of_coded {i : Instr} {a : Alphabet} {x v n : Nat} (h : i.element? = some (.coded a x v n)) :
    x < a.size ∧ (a = .cl → n = metaExtra x) ∧ (a = .ll → x ≤ 256 → n = 0) ∧
      (a = .ll → 257 ≤ x → ∃ r ∈ lengthTable, r.code = x ∧ r.extra = n) ∧
      (a = .dd → ∃ r ∈ distTable, r.code = x ∧ r.extra = n) := by
  cases i <;> simp only [Instr.element?, reduceCtorEq, Option.some.injEq, Element.coded.injEq] at h
  all_goals obtain ⟨rfl, rfl, rfl, rfl⟩ := h
  case literal b =>
    have hb : b.toNat < 256 := b.isLt
    have hsize : Alphabet.ll.size = 286 := rfl
    refine ⟨by omega, nofun, fun _ _ => rfl, fun _ _ => ?_, nofun⟩
    omega
  all_goals decide

theorem extra_ne_of_code284 {i : Instr} {a : Alphabet} {x v n : Nat} (h : i.element? = some (.coded a x v n))
    (hwf : i.wf = true) (hx : x = 284) : v ≠ 31 := by
  cases i <;> simp only [Instr.element?, reduceCtorEq, Option.some.injEq, Element.coded.injEq] at h
  all_goals obtain ⟨rfl, rfl, rfl, rfl⟩ := h
  case literal b =>
    have := b.isLt
    omega
  case len284 y => exact of_decide_eq_true hwf
  all_goals exact absurd hx (by decide)

/-- The extra values of a length row reach just to the end of its range; code 284 has one too many (R81, R102). -/
theorem lengthTable_range : ∀ r ∈ lengthTable, r.base ≤ r.last ∧
    r.base + 2 ^ r.extra = r.last + 1 + (if r.code = 284 then 1 else 0) := by
  decide

/-- The extra values of a distance row reach just to the end of its range (R104). -/
theorem distTable_range : ∀ r ∈ distTable, r.base ≤ r.last ∧ r.base + 2 ^ r.extra = r.last + 1 := by
  decide

/-- The elements of the length rows, made from an extra value (R73, R102). -/
theorem lengthRows_elements (w : Nat) : (tokenRows.drop 2).map (fun r => ((r.2 w).element?, (r.2 w).wf)) =
    lengthTable.map fun r => (some (.coded .ll r.code (if r.extra = 0 then 0 else w % 2 ^ r.extra) r.extra),
      r.code != 284 || decide (w % 2 ^ r.extra ≠ 31)) := rfl

/-- The elements of the distance rows, made from an extra value (R74, R104). -/
theorem distanceRows_elements (w : Nat) : distanceRows.map (fun r => ((r.2 w).element?, (r.2 w).wf)) =
    distTable.map fun r => (some (.coded .dd r.code (if r.extra = 0 then 0 else w % 2 ^ r.extra) r.extra), true) := rfl

/-- The elements of the meta symbols, made from an extra value (R68 to R71). -/
theorem metaRows_elements (w : Nat) : metaRows.map (fun r => ((r.2 w).element?, (r.2 w).wf)) =
    (List.range 19).map fun x =>
      (some (.coded .cl x (if metaExtra x = 0 then 0 else w % 2 ^ metaExtra x) (metaExtra x)), true) := rfl

theorem cut_eq_self {w k : Nat} (h : w < 2 ^ k) : (if k = 0 then 0 else w % 2 ^ k) = w := by
  split
  next hk => subst hk; omega
  next => exact Nat.mod_eq_of_lt h

theorem lengthRow_element {r : CodeRow} (hr : r ∈ lengthTable) {v : Nat} (hv : v < 2 ^ r.extra)
    (h284 : r.code = 284 → v ≠ 31) : ∃ i : Instr, i.wf = true ∧ i.element? = some (.coded .ll r.code v r.extra) := by
  have hmem := List.mem_map_of_mem (f := fun r => (some (Element.coded .ll r.code
    (if r.extra = 0 then 0 else v % 2 ^ r.extra) r.extra), r.code != 284 || decide (v % 2 ^ r.extra ≠ 31))) hr
  rw [← lengthRows_elements] at hmem
  obtain ⟨row, -, hrow⟩ := List.mem_map.mp hmem
  obtain ⟨helem, hwf⟩ := Prod.mk.inj hrow
  refine ⟨row.2 v, ?_, by rw [helem, cut_eq_self hv]⟩
  rw [hwf, Nat.mod_eq_of_lt hv]
  by_cases hcode : r.code = 284
  · simp [h284 hcode]
  · simp [hcode]

theorem distRow_element {r : CodeRow} (hr : r ∈ distTable) {v : Nat} (hv : v < 2 ^ r.extra) :
    ∃ i : Instr, i.wf = true ∧ i.element? = some (.coded .dd r.code v r.extra) := by
  have hmem := List.mem_map_of_mem (f := fun r => (some (Element.coded .dd r.code
    (if r.extra = 0 then 0 else v % 2 ^ r.extra) r.extra), true)) hr
  rw [← distanceRows_elements] at hmem
  obtain ⟨row, -, hrow⟩ := List.mem_map.mp hmem
  obtain ⟨helem, hwf⟩ := Prod.mk.inj hrow
  exact ⟨row.2 v, hwf, by rw [helem, cut_eq_self hv]⟩

theorem metaSymbol_element {x v : Nat} (hx : x < 19) (hv : v < 2 ^ metaExtra x) :
    ∃ i : Instr, i.wf = true ∧ i.element? = some (.coded .cl x v (metaExtra x)) := by
  have hmem := List.mem_map_of_mem (f := fun x => (some (Element.coded .cl x
    (if metaExtra x = 0 then 0 else v % 2 ^ metaExtra x) (metaExtra x)), true)) (List.mem_range.mpr hx)
  rw [← metaRows_elements] at hmem
  obtain ⟨row, -, hrow⟩ := List.mem_map.mp hmem
  obtain ⟨helem, hwf⟩ := Prod.mk.inj hrow
  exact ⟨row.2 v, hwf, by rw [helem, cut_eq_self hv]⟩

/-- A lookup answers from a row whose range holds the operand. -/
theorem lookupIn_row {table : List CodeRow} {v : Nat} {c : Lookup} (h : lookupIn table v = some c) :
    ∃ r ∈ table, r.base ≤ v ∧ v ≤ r.last ∧ c = ⟨r.code, r.extra, v - r.base⟩ := by
  obtain ⟨r, hr, rfl⟩ := Option.map_eq_some_iff.mp h
  have hcover := List.find?_some hr
  simp only [Bool.and_eq_true, decide_eq_true_eq] at hcover
  exact ⟨r, List.mem_of_find?_eq_some hr, hcover.1, hcover.2, rfl⟩

/-- The extra value of a length fits its row's count, and is not 31 for code 284 (R78, R81). -/
theorem length_sub_base {r : CodeRow} (hr : r ∈ lengthTable) {l : Nat} (hbase : r.base ≤ l) (hlast : l ≤ r.last) :
    l - r.base < 2 ^ r.extra ∧ (r.code = 284 → l - r.base ≠ 31) := by
  obtain ⟨-, hrange⟩ := lengthTable_range r hr
  refine ⟨by split_ifs at hrange <;> omega, fun hcode => ?_⟩
  have hextra : ∀ r ∈ lengthTable, r.code = 284 → r.extra = 5 := by decide
  rw [hextra r hr hcode, if_pos hcode] at hrange
  omega

/-- The extra value of a distance fits its row's count (R78). -/
theorem dist_sub_base {r : CodeRow} (hr : r ∈ distTable) {d : Nat} (hbase : r.base ≤ d) (hlast : d ≤ r.last) :
    d - r.base < 2 ^ r.extra := by
  obtain ⟨-, hrange⟩ := distTable_range r hr
  omega

theorem lengthLookup_element {l : Nat} {c : Lookup} (h : lengthLookup l = some c) :
    ∃ i : Instr, i.wf = true ∧ i.element? = some (.coded .ll c.code c.value c.extra) := by
  obtain ⟨r, hr, hbase, hlast, rfl⟩ := lookupIn_row h
  obtain ⟨hfits, h284⟩ := length_sub_base hr hbase hlast
  exact lengthRow_element hr hfits h284

theorem distLookup_element {d : Nat} {c : Lookup} (h : distLookup d = some c) :
    ∃ i : Instr, i.wf = true ∧ i.element? = some (.coded .dd c.code c.value c.extra) := by
  obtain ⟨r, hr, hbase, hlast, rfl⟩ := lookupIn_row h
  exact distRow_element hr (dist_sub_base hr hbase hlast)

theorem RleTuple.wf_iff {t : RleTuple} :
    t.wf = true ↔ t.symbol < 19 ∧ t.extra = metaExtra t.symbol ∧ t.value < 2 ^ t.extra := by
  simp [RleTuple.wf, and_assoc]

theorem tuple_element {t : RleTuple} (h : t.wf = true) :
    ∃ i : Instr, i.wf = true ∧ i.element? = some (.coded .cl t.symbol t.value t.extra) := by
  obtain ⟨hsym, hextra, hvalue⟩ := RleTuple.wf_iff.mp h
  rw [hextra] at hvalue ⊢
  exact metaSymbol_element hsym hvalue

/-- Settles O56: an element's symbol has its row by `symbol_of_coded`, and each lookup result and tuple is made by its
row. -/
theorem elementsStandForTheirSymbols : Obligations.ElementsStandForTheirSymbols := by
  refine ⟨fun i a x v n h hwf => ?_, fun l c => lengthLookup_element, fun d c => distLookup_element, fun t => tuple_element⟩
  obtain ⟨hsize, hmeta, hlit, hlen, hdist⟩ := symbol_of_coded h
  have hv := extra_lt_of_coded h
  refine ⟨hsize, hv, hmeta, hlit, fun ha hx => ?_, fun ha => ?_⟩
  · obtain ⟨r, hr, rfl, rfl⟩ := hlen ha hx
    obtain ⟨-, hrange⟩ := lengthTable_range r hr
    refine ⟨r, hr, rfl, rfl, ?_⟩
    split_ifs at hrange with hcode
    · have hextra : ∀ r ∈ lengthTable, r.code = 284 → r.extra = 5 := by decide
      have hne := extra_ne_of_code284 h hwf hcode
      rw [hextra r hr hcode] at hv hrange
      omega
    · omega
  · obtain ⟨r, hr, rfl, rfl⟩ := hdist ha
    obtain ⟨-, hrange⟩ := distTable_range r hr
    exact ⟨r, hr, rfl, rfl, by omega⟩

end Sys2Proof.Machine
end

section
/-! PROOFS. The lookups of the code tables (R101 to R106): the one row of an operand, and the closed forms. -/

namespace Sys2Proof.Machine

/-- The ranges of a table's rows do not overlap. -/
def RowsDisjoint (table : List CodeRow) : Prop :=
  ∀ r ∈ table, ∀ r' ∈ table, r.base ≤ r'.last → r'.base ≤ r.last → r' = r

theorem lengthTable_disjoint : RowsDisjoint lengthTable := by
  unfold RowsDisjoint
  decide

theorem distTable_disjoint : RowsDisjoint distTable := by
  unfold RowsDisjoint
  decide

theorem lookupIn_of_mem {table : List CodeRow} (htable : RowsDisjoint table) {r : CodeRow} (hr : r ∈ table) {v : Nat}
    (hbase : r.base ≤ v) (hlast : v ≤ r.last) : lookupIn table v = some ⟨r.code, r.extra, v - r.base⟩ := by
  obtain ⟨c, hc⟩ := lookupIn_isSome ⟨r, hr, hbase, hlast⟩
  obtain ⟨r', hr', hbase', hlast', rfl⟩ := lookupIn_row hc
  obtain rfl := htable r hr r' hr' (Nat.le_trans hbase hlast') (Nat.le_trans hbase' hlast)
  exact hc

theorem exec_lengthLookup {l : Nat} {c : Lookup} (s : State) (h : lengthLookup l = some c) :
    exec (.lengthLookup l) s = .next { s with lenRes := c } := by
  simp only [exec, execLengthLookup, opLengthLookup, h, finish_ok]

theorem exec_distLookup {d : Nat} {c : Lookup} (s : State) (h : distLookup d = some c) :
    exec (.distLookup d) s = .next { s with distRes := c } := by
  simp only [exec, execDistLookup, opDistLookup, h, finish_ok]

/-- Settles O31: a row holds the operand, and no other does since the rows do not overlap. -/
theorem lookupsAnswerFromTheirTables : Obligations.LookupsAnswerFromTheirTables := by
  refine ⟨fun s l h3 h258 => ?_, fun s d h1 hmax => ?_⟩
  · obtain ⟨c, hc⟩ := lengthLookup_isSome h3 h258
    obtain ⟨r, hr, hbase, hlast, rfl⟩ := lookupIn_row hc
    exact ⟨r, hr, hbase, hlast, (length_sub_base hr hbase hlast).1, exec_lengthLookup s hc, fun r' hr' hbase' hlast' =>
      lengthTable_disjoint r hr r' hr' (Nat.le_trans hbase hlast') (Nat.le_trans hbase' hlast)⟩
  · obtain ⟨c, hc⟩ := distLookup_isSome h1 hmax
    obtain ⟨r, hr, hbase, hlast, rfl⟩ := lookupIn_row hc
    exact ⟨r, hr, hbase, hlast, dist_sub_base hr hbase hlast, exec_distLookup s hc, fun r' hr' hbase' hlast' =>
      distTable_disjoint r hr r' hr' (Nat.le_trans hbase hlast') (Nat.le_trans hbase' hlast)⟩

/-- The row of a length in group `g`, quarter `r` (R106). -/
theorem lengthRow_of_group : ∀ g ≤ 5, 1 ≤ g → ∀ r < 4, ∃ row ∈ lengthTable, row.code = 261 + 4 * g + r ∧
    row.extra = g ∧ row.base = 3 + (4 + r) * 2 ^ g ∧ row.last + 1 = min 258 (row.base + 2 ^ g) := by
  decide

/-- The row of a distance in group `g`, half `r` (R106). -/
theorem distRow_of_group : ∀ g ≤ 13, 1 ≤ g → ∀ r < 2, ∃ row ∈ distTable, row.code = 2 * g + 2 + r ∧
    row.extra = g ∧ row.base = 1 + (2 + r) * 2 ^ g ∧ row.last + 1 = row.base + 2 ^ g := by
  decide

theorem lengthLookup_of_group {g r v : Nat} (h1 : 1 ≤ g) (h5 : g ≤ 5) (hr : r < 4) (hv : v < 2 ^ g)
    (hmax : 3 + (4 + r) * 2 ^ g + v < 258) :
    lengthLookup (3 + (4 + r) * 2 ^ g + v) = some ⟨261 + 4 * g + r, g, v⟩ := by
  obtain ⟨row, hmem, hcode, hextra, hbase, hlast⟩ := lengthRow_of_group g h5 h1 r hr
  rw [lengthLookup, lookupIn_of_mem lengthTable_disjoint hmem (by omega) (by omega), hcode, hextra, hbase,
    Nat.add_sub_cancel_left]

theorem distLookup_of_group {g r v : Nat} (h1 : 1 ≤ g) (h13 : g ≤ 13) (hr : r < 2) (hv : v < 2 ^ g) :
    distLookup (1 + (2 + r) * 2 ^ g + v) = some ⟨2 * g + 2 + r, g, v⟩ := by
  obtain ⟨row, hmem, hcode, hextra, hbase, hlast⟩ := distRow_of_group g h13 h1 r hr
  rw [distLookup, lookupIn_of_mem distTable_disjoint hmem (by omega) (by omega), hcode, hextra, hbase,
    Nat.add_sub_cancel_left]

/-- Settles O32: the check values are single lookups, and the closed forms are rows of the tables. -/
theorem lookupsMeetTheClosedForms : Obligations.LookupsMeetTheClosedForms := by
  have short : ∀ l ≤ 10, 3 ≤ l → lengthLookup l = some ⟨257 + (l - 3), 0, 0⟩ := by decide
  have code265 : ∀ l ≤ 12, 11 ≤ l → lengthLookup l = some ⟨265, 1, l - 11⟩ := by decide
  have near : ∀ d ≤ 4, 1 ≤ d → distLookup d = some ⟨d - 1, 0, 0⟩ := by decide
  intro s
  exact ⟨fun l h3 h10 => exec_lengthLookup s (short l h10 h3),
    fun l h11 h12 => exec_lengthLookup s (code265 l h12 h11),
    exec_lengthLookup s rfl,
    fun g r v h1 h5 hr hv hmax => exec_lengthLookup s (lengthLookup_of_group h1 h5 hr hv hmax),
    fun d h1 h4 => exec_distLookup s (near d h4 h1),
    fun g r v h1 h13 hr hv => exec_distLookup s (distLookup_of_group h1 h13 hr hv)⟩

end Sys2Proof.Machine
end

section
/-! PROOFS. Reading an element back (R80): where no code begins another, the next bits spell one symbol only. -/

namespace Sys2Proof.Machine

theorem ofLsbBits_take_append (v n : Nat) (rest : List Bit) : ofLsbBits ((lsbBits v n ++ rest).take n) = v % 2 ^ n := by
  rw [List.take_left' (length_lsbBits v n), ofLsbBits_lsbBits]

theorem readField_lsbBits {v n : Nat} (hv : v < 2 ^ n) (rest : List Bit) :
    readField n (lsbBits v n ++ rest) = .ok (v, rest) := by
  have hlen : n ≤ (lsbBits v n ++ rest).length := by simp
  rw [readField, if_pos hlen, ofLsbBits_take_append, Nat.mod_eq_of_lt hv, List.drop_left' (length_lsbBits v n)]

/-- A symbol found for the next `n` bits has length `n`, and they are its code. -/
theorem symbolOfLength_spec {L C : List Nat} {bs : List Bit} {n y : Nat} (h : symbolOfLength L C bs n = some y) :
    y < L.length ∧ L.getD y 0 = n ∧ bs.take n = codeBits L C y := by
  obtain ⟨⟨l, z⟩, hfind, rfl⟩ := Option.map_eq_some_iff.mp h
  have hcond := List.find?_some hfind
  simp only [Bool.and_eq_true, beq_iff_eq] at hcond
  obtain ⟨rfl, htake⟩ := hcond
  have hz := List.mem_zipIdx_iff_getElem?.mp (List.mem_of_find?_eq_some hfind)
  have hlen : L.getD z 0 = l := by rw [List.getD_eq_getElem?_getD, hz, Option.getD_some]
  exact ⟨(List.getElem?_eq_some_iff.mp hz).1, hlen, by rw [codeBits, hlen, htake]⟩

theorem symbolOfLength_isSome {L C : List Nat} {x : Nat} (hx : L.getD x 0 ≠ 0) (rest : List Bit) :
    ∃ y, symbolOfLength L C (codeBits L C x ++ rest) (L.getD x 0) = some y := by
  have hlt := lt_length_of_getD_ne_zero hx
  rw [← Option.isSome_iff_exists, symbolOfLength, Option.isSome_map, List.find?_isSome]
  refine ⟨(L.getD x 0, x), List.mem_zipIdx_iff_getElem?.mpr ?_, ?_⟩
  · rw [List.getElem?_eq_getElem hlt, List.getD_eq_getElem _ _ hlt]
  · simp only [beq_self_eq_true, Bool.true_and, beq_iff_eq]
    exact List.take_left' (length_codeBits L C x)

theorem readSymbol_eq_findSome? (L C : List Nat) (bs : List Bit) : readSymbol L C bs =
    (((List.range 15).findSome? fun k => (symbolOfLength L C bs (k + 1)).map fun y => (y, bs.drop (k + 1))).map
      Except.ok).getD (.error .noCode) := by
  unfold readSymbol
  cases (List.range 15).findSome? fun k => (symbolOfLength L C bs (k + 1)).map fun y => (y, bs.drop (k + 1)) <;> rfl

/-- The walk of R80 stops at the symbol whose code was written, and at no shorter code. -/
theorem readSymbol_codeBits {L C : List Nat} (hpre : PrefixFree L C) (hcap : ∀ l ∈ L, l ≤ 15) {x : Nat}
    (hx : L.getD x 0 ≠ 0) (rest : List Bit) : readSymbol L C (codeBits L C x ++ rest) = .ok (x, rest) := by
  have only {n y : Nat} (hn : n ≤ L.getD x 0) (hn0 : n ≠ 0)
      (h : symbolOfLength L C (codeBits L C x ++ rest) n = some y) : y = x := by
    obtain ⟨-, hlen, htake⟩ := symbolOfLength_spec h
    by_contra hne
    refine hpre y x hne (hlen ▸ hn0) hx ?_
    rw [← htake, List.take_append_of_le_length (by rwa [length_codeBits])]
    exact List.take_prefix _ _
  obtain ⟨m, hm⟩ := Nat.exists_eq_succ_of_ne_zero hx
  have hm15 : m < 15 := by
    have := getD_le hcap x
    omega
  have hfound : (symbolOfLength L C (codeBits L C x ++ rest) (m + 1)).map
      (fun y => (y, (codeBits L C x ++ rest).drop (m + 1))) = some (x, rest) := by
    obtain ⟨y, hy⟩ := symbolOfLength_isSome (C := C) hx rest
    obtain rfl := only (Nat.le_refl _) hx hy
    rw [← Nat.succ_eq_add_one, ← hm, hy, Option.map_some, List.drop_left' (length_codeBits L C y)]
  have hshorter : ∀ k ∈ List.range m, (symbolOfLength L C (codeBits L C x ++ rest) (k + 1)).map
      (fun y => (y, (codeBits L C x ++ rest).drop (k + 1))) = none := by
    intro k hk
    have hkm := List.mem_range.mp hk
    rw [Option.map_eq_none_iff]
    refine Option.eq_none_iff_forall_ne_some.mpr fun y hy => ?_
    obtain rfl := only (by omega) (Nat.succ_ne_zero k) hy
    have := (symbolOfLength_spec hy).2.1
    omega
  have hsplit : List.range 15 = List.range m ++ m :: (List.range (14 - m)).map (m + 1 + ·) := by
    conv_lhs => rw [show 15 = m + 1 + (14 - m) by omega, List.range_add, List.range_succ, List.append_assoc]
    rfl
  rw [readSymbol_eq_findSome?, hsplit, List.findSome?_append, List.findSome?_eq_none_iff.mpr hshorter,
    List.findSome?_cons, hfound]
  rfl

/-- The row of a symbol reads its extra bits back. -/
theorem readExtra_lsbBits {i : Instr} {a : Alphabet} {x v n : Nat} (h : i.element? = some (.coded a x v n))
    (hwf : i.wf = true) (rest : List Bit) : readExtra a x (lsbBits v n ++ rest) = .ok (i, rest) := by
  by_cases hlit : ∃ b, i = .literal b
  · obtain ⟨b, rfl⟩ := hlit
    cases h
    have hb : b.toNat < 256 := b.isLt
    simp [readExtra, hb]
  · have hlit : ∀ b, i ≠ .literal b := fun b hb => hlit ⟨b, hb⟩
    obtain ⟨f, hrow, hf, hv⟩ := row_of_coded h hlit
    have hnot : ¬ (a = .ll ∧ x < 256) := by
      rintro ⟨rfl, hx⟩
      simp only [elementIndex, hx, if_true, Option.bind_some] at hrow
      obtain ⟨-, rfl⟩ := Prod.mk.inj (Option.some.inj hrow)
      exact hlit _ hf.symm
    rw [← hf] at hwf
    simp only [readExtra, hnot, if_false, hrow, readField_lsbBits hv rest]
    exact (if_pos hwf).trans (by rw [hf])

/-- Where the coded elements of an alphabet stand in the stream (R80). -/
def codedPosition : Alphabet → Position
  | .cl => .codeLength
  | .ll => .token
  | .dd => .distance

/-- A coded element reads back at its alphabet's position. -/
theorem decodeElement_coded {k : CodeBook} {i : Instr} {a : Alphabet} {x v n : Nat}
    (hpre : PrefixFree (k.lens a) (k.codes a)) (hcap : ∀ l ∈ k.lens a, l ≤ 15) (hx : (k.lens a).getD x 0 ≠ 0)
    (h : i.element? = some (.coded a x v n)) (hwf : i.wf = true) (rest : List Bit) :
    decodeElement (codedPosition a) k (codeBits (k.lens a) (k.codes a) x ++ (lsbBits v n ++ rest)) = .ok (i, rest) := by
  have hread : decodeElement (codedPosition a) k (codeBits (k.lens a) (k.codes a) x ++ (lsbBits v n ++ rest)) =
      (readSymbol (k.lens a) (k.codes a) (codeBits (k.lens a) (k.codes a) x ++ (lsbBits v n ++ rest))).bind
        fun r => readExtra a r.1 r.2 := by
    cases a <;> rfl
  rw [hread, readSymbol_codeBits hpre hcap hx]
  exact readExtra_lsbBits h hwf rest

theorem readConstant_lsbBits {n v : Nat} (hv : v < 2 ^ n) (i : Instr) (rest : List Bit) :
    readConstant n v i (lsbBits v n ++ rest) = .ok (i, rest) := by
  simp only [readConstant, readField_lsbBits hv]
  exact if_pos rfl

theorem readHeader_lsbBits {n : Nat} (f : BitVec n → Instr) {x : BitVec n} (hwf : (f x).wf = true) (rest : List Bit) :
    readHeader n (fun v => f (BitVec.ofNat n v)) (lsbBits x.toNat n ++ rest) = .ok (f x, rest) := by
  have hx : BitVec.ofNat n x.toNat = x := by simp
  rw [← hx] at hwf
  simp only [readHeader, readField_lsbBits x.isLt]
  exact (if_pos hwf).trans (by rw [hx])

/-- A field element reads back at its position. -/
theorem decodeElement_field {k : CodeBook} {i : Instr} {v n : Nat} {p : Position}
    (h : i.element? = some (.field v n)) (hwf : i.wf = true) (hp : positionOf i = some p) (rest : List Bit) :
    decodeElement p k (lsbBits v n ++ rest) = .ok (i, rest) := by
  cases i <;> simp only [Instr.element?, reduceCtorEq, Option.some.injEq, Element.field.injEq] at h
  all_goals
    obtain ⟨rfl, rfl⟩ := h
    obtain rfl := Option.some.inj hp
  case bfinal => exact readConstant_lsbBits (by decide) .bfinal rest
  case btype => exact readConstant_lsbBits (by decide) .btype rest
  case hlit a => exact readHeader_lsbBits .hlit hwf rest
  case hdist b => exact readHeader_lsbBits .hdist hwf rest
  case hclen c => exact readHeader_lsbBits .hclen hwf rest
  case cllenField d => exact readHeader_lsbBits .cllenField hwf rest

theorem positionOf_coded {i : Instr} {a : Alphabet} {x v n : Nat} (h : i.element? = some (.coded a x v n)) :
    positionOf i = some (codedPosition a) := by
  cases a <;> simp only [positionOf, h, codedPosition]

/-- Settles O60: a field reads back as its number, and a coded element by its symbol's code, which no other code
begins. -/
theorem elementsReadBack : Obligations.ElementsReadBack := by
  intro k i p bs rest hk hwf hp henc
  unfold encodeElement at henc
  split at henc
  next v n helem =>
    obtain rfl := Option.some.inj henc
    exact decodeElement_field helem hwf hp rest
  next a x v n helem =>
    obtain ⟨-, hcap, hpre⟩ := hk a
    obtain ⟨hx, hbits⟩ := Option.ite_none_left_eq_some.mp henc
    obtain rfl := Option.some.inj hbits
    obtain rfl : codedPosition a = p := Option.some.inj ((positionOf_coded helem).symm.trans hp)
    rw [List.append_assoc]
    exact decodeElement_coded hpre hcap hx helem hwf rest
  next => cases henc

end Sys2Proof.Machine
end

section
/-! PROOFS. The loops over tokens and tuples: each runs one operation per item, and an item that raises Internal ends
the loop so. -/

namespace Sys2Proof.Machine

/-- `f` on each item in order, with `tick` after each: the shape of the loops over tokens, tuples and symbols (R28). -/
def forEach {α : Type} (f : α → State → Result) (tick : State → State) : List α → State → Result
  | [], s => .ok s
  | x :: xs, s => andThen (f x s) fun t => forEach f tick xs (tick t)

theorem tallyLoop_eq (xs : List Token) (s : State) :
    tallyLoop xs s = forEach tallyToken (fun t => { t with ti := t.ti + 1 }) xs s := by
  induction xs generalizing s with
  | nil => rfl
  | cons x xs ih => simp only [tallyLoop, forEach, ih]

theorem writeTokensLoop_eq (xs : List Token) (s : State) :
    writeTokensLoop xs s = forEach writeToken (fun t => { t with ti := t.ti + 1 }) xs s := by
  induction xs generalizing s with
  | nil => rfl
  | cons x xs ih => simp only [writeTokensLoop, forEach, ih]

theorem clTallyLoop_eq (xs : List RleTuple) (s : State) :
    clTallyLoop xs s = forEach clTallyTuple (fun t => { t with ri := t.ri + 1 }) xs s := by
  induction xs generalizing s with
  | nil => rfl
  | cons x xs ih => simp only [clTallyLoop, forEach, ih]

theorem writeRleLoop_eq (xs : List RleTuple) (s : State) :
    writeRleLoop xs s = forEach writeTuple (fun t => { t with ri := t.ri + 1 }) xs s := by
  induction xs generalizing s with
  | nil => rfl
  | cons x xs ih => simp only [writeRleLoop, forEach, ih]

theorem cllensLoop_eq (cs : List Nat) (s : State) :
    cllensLoop cs s = forEach (fun c t => opAppendBitsLsb (t.cllen.getD c 0) 3 t) (fun t => { t with ci := t.ci + 1 })
      cs s := by
  induction cs generalizing s with
  | nil => rfl
  | cons c cs ih => simp only [cllensLoop, forEach, ih]

/-- An operation that ends in error entry with Internal. -/
def RaisesInternal (r : Result) : Prop := ∃ u, r = raise .internal u

theorem RaisesInternal.andThen {r : Result} (h : RaisesInternal r) (f : State → Result) :
    RaisesInternal (andThen r f) := by
  obtain ⟨u, rfl⟩ := h
  exact ⟨u, rfl⟩

theorem RaisesInternal.finish {r : Result} (h : RaisesInternal r) :
    ∃ t, finish r = .next t ∧ t.err = true ∧ t.errcode = .internal ∧ t.outLen = 0 := by
  obtain ⟨u, rfl⟩ := h
  exact ⟨u.errorEntry .internal, rfl, rfl, rfl, rfl⟩

/-- A loop over items of which one is bad raises Internal, if a bad item does and a good one leaves good and bad as they
are. -/
theorem forEach_raises {α : Type} {f : α → State → Result} {tick : State → State} {good : State → α → Prop}
    (hbad : ∀ s x, ¬ good s x → RaisesInternal (f x s))
    (hgood : ∀ s x, good s x → ∃ t, f x s = .ok t ∧ ∀ y, good (tick t) y → good s y)
    {xs : List α} {s : State} (h : ∃ x ∈ xs, ¬ good s x) : RaisesInternal (forEach f tick xs s) := by
  induction xs generalizing s with
  | nil => simp at h
  | cons x xs ih =>
    by_cases hx : good s x
    · obtain ⟨t, ht, hkeep⟩ := hgood s x hx
      rw [forEach, ht, andThen_ok]
      obtain ⟨y, hy, hybad⟩ := h
      rcases List.mem_cons.mp hy with rfl | hy
      · exact absurd hx hybad
      · exact ih ⟨y, hy, fun hg => hybad (hkeep y hg)⟩
    · exact (hbad s x hx).andThen _

end Sys2Proof.Machine
end

section
/-! PROOFS. What raises Internal: symbols without a code (R164, R178) and operands out of range (R82; log entry 11). -/

namespace Sys2Proof.Machine

theorem lookupIn_eq_none {table : List CodeRow} {v : Nat} (h : ∀ r ∈ table, v < r.base ∨ r.last < v) :
    lookupIn table v = none := by
  refine Option.eq_none_iff_forall_ne_some.mpr fun c hc => ?_
  obtain ⟨r, hr, hbase, hlast, -⟩ := lookupIn_row hc
  rcases h r hr with h | h <;> omega

theorem lengthLookup_eq_none {l : Nat} (h : l < 3 ∨ 258 < l) : lengthLookup l = none := by
  have rows : ∀ r ∈ lengthTable, 3 ≤ r.base ∧ r.last ≤ 258 := by decide
  refine lookupIn_eq_none fun r hr => ?_
  have := rows r hr
  omega

theorem distLookup_eq_none {d : Nat} (h : d < 1 ∨ 32768 < d) : distLookup d = none := by
  have rows : ∀ r ∈ distTable, 1 ≤ r.base ∧ r.last ≤ 32768 := by decide
  refine lookupIn_eq_none fun r hr => ?_
  have := rows r hr
  omega

/-- A pair outside the ranges of R60 has no length code or no distance code. -/
theorem lookups_of_not_wf {l d : Nat} (h : l < 3 ∨ 258 < l ∨ d < 1 ∨ 32768 < d) :
    lengthLookup l = none ∨ distLookup d = none := by
  rcases h with h | h | h | h
  · exact .inl (lengthLookup_eq_none (.inl h))
  · exact .inl (lengthLookup_eq_none (.inr h))
  · exact .inr (distLookup_eq_none (.inl h))
  · exact .inr (distLookup_eq_none (.inr h))

theorem Token.not_wf_cases {x : Token} (h : x.wf = false) :
    ∃ l d, x = .backRef l d ∧ (lengthLookup l = none ∨ distLookup d = none) := by
  cases x with
  | literal b => cases h
  | backRef l d =>
    simp only [Token.wf, Bool.and_eq_false_iff, decide_eq_false_iff_not] at h
    exact ⟨l, d, rfl, lookups_of_not_wf (by omega)⟩

theorem opWriteMatch_of_none {l d : Nat} (s : State) (h : lengthLookup l = none ∨ distLookup d = none) :
    opWriteMatch l d s = raise .internal s := by
  unfold opWriteMatch
  split
  next c e hc he => rcases h with h | h <;> simp_all
  next => rfl

theorem tallyToken_of_not_wf {x : Token} (s : State) (h : x.wf = false) : tallyToken x s = raise .internal s := by
  obtain ⟨l, d, rfl, hnone⟩ := Token.not_wf_cases h
  simp only [tallyToken]
  split
  next c e hc he => rcases hnone with h | h <;> simp_all
  next => rfl

/-- Both symbols of a match have a code, or the first without one ends the write (R160, R164). -/
theorem opWriteMatch_cases {l d : Nat} {c e : Lookup} (s : State) (hc : lengthLookup l = some c)
    (he : distLookup d = some e) : opWriteMatch l d s =
      if s.lllen.getD c.code 0 = 0 then raise .internal s
      else if s.ddlen.getD e.code 0 = 0 then raise .internal (s.emit (lengthBits s c))
      else .ok (s.emit (lengthBits s c ++ distBits s e)) := by
  simp only [opWriteMatch, hc, he]
  split_ifs with hll hdd
  · rw [writeCoded_uncoded .ll _ _ _ s hll, andThen_raise]
  · rw [writeCoded_coded .ll _ _ _ s hll, andThen_ok]
    exact writeCoded_uncoded .dd _ _ _ _ hdd
  · rw [writeCoded_coded .ll _ _ _ s hll, andThen_ok]
    refine (writeCoded_coded .dd _ _ _ (s.emit _) hdd).trans ?_
    rw [State.emit_emit]
    rfl

theorem writeToken_raises {x : Token} {s : State} (h : ¬ (x.wf = true ∧ TokenCoded s x)) :
    RaisesInternal (writeToken x s) := by
  by_cases hwf : x.wf = true
  · have hcode : ¬ TokenCoded s x := fun hc => h ⟨hwf, hc⟩
    rcases Token.wf_cases hwf with ⟨b, rfl⟩ | ⟨l, d, c, e, rfl, -, hc, he⟩
    · have hlit : s.lllen.getD b.toNat 0 = 0 := by
        by_contra hne
        refine hcode ⟨fun y hy => ?_, fun y hy => nomatch hy⟩
        cases hy
        exact hne
      exact ⟨s, writeSymbol_uncoded .ll _ s hlit⟩
    · rw [writeToken, opWriteMatch_cases s hc he]
      split_ifs with hll hdd
      · exact ⟨_, rfl⟩
      · exact ⟨_, rfl⟩
      · refine absurd ⟨fun y hy => ?_, fun y hy => ?_⟩ hcode
        · simp only [Token.llSymbol, hc, Option.map_some, Option.some.injEq] at hy
          exact hy ▸ hll
        · simp only [Token.ddSymbol, he, Option.map_some, Option.some.injEq] at hy
          exact hy ▸ hdd
  · obtain ⟨l, d, rfl, hnone⟩ := Token.not_wf_cases (by simpa using hwf)
    exact ⟨s, opWriteMatch_of_none s hnone⟩

theorem writeTuple_raises {x : RleTuple} {s : State} (h : ¬ (x.wf = true ∧ s.cllen.getD x.symbol 0 ≠ 0)) :
    RaisesInternal (writeTuple x s) := by
  unfold writeTuple
  split
  next hwf =>
    have hcode : s.cllen.getD x.symbol 0 = 0 := by
      by_contra hne
      exact h ⟨hwf, hne⟩
    exact ⟨s, writeCoded_uncoded .cl _ _ _ s hcode⟩
  next => exact ⟨s, rfl⟩

theorem opWriteTokens_raises {s : State} (h : ∃ x ∈ s.tok, ¬ (x.wf = true ∧ TokenCoded s x)) :
    RaisesInternal (opWriteTokens s) := by
  rw [opWriteTokens, writeTokensLoop_eq]
  exact forEach_raises (good := fun s x => x.wf = true ∧ TokenCoded s x) (fun _ _ => writeToken_raises)
    (fun s x hx => ⟨_, writeToken_ok s hx.1 hx.2, fun _ hy => hy⟩) h

theorem opWriteRle_raises {s : State} (h : ∃ x ∈ s.rle, ¬ (x.wf = true ∧ s.cllen.getD x.symbol 0 ≠ 0)) :
    RaisesInternal (opWriteRle s) := by
  rw [opWriteRle, writeRleLoop_eq]
  exact forEach_raises (good := fun s x => x.wf = true ∧ s.cllen.getD x.symbol 0 ≠ 0) (fun _ _ => writeTuple_raises)
    (fun s x hx => ⟨_, writeTuple_ok s hx.1 hx.2, fun _ hy => hy⟩) h

theorem opTally_raises {s : State} (h : ∃ x ∈ s.tok, ¬ x.wf = true) : RaisesInternal (opTally s) := by
  rw [opTally, tallyLoop_eq]
  refine RaisesInternal.andThen ?_ _
  exact forEach_raises (good := fun _ x => x.wf = true)
    (fun s x hx => ⟨s, tallyToken_of_not_wf s (by simpa using hx)⟩)
    (fun s x hx => ⟨_, tallyToken_ok x s hx, fun _ hy => hy⟩) h

theorem opClTally_raises {s : State} (h : ∃ x ∈ s.rle, ¬ x.wf = true) : RaisesInternal (opClTally s) := by
  rw [opClTally, clTallyLoop_eq]
  exact forEach_raises (good := fun _ (x : RleTuple) => x.wf = true) (fun s x hx => ⟨s, if_neg hx⟩)
    (fun s x hx => ⟨_, if_pos hx, fun _ hy => hy⟩) h

theorem exec_writeLiteral (b : Byte) (s : State) : exec (.writeLiteral b) s = finish (writeSymbol .ll b.toNat s) := rfl
theorem exec_writeEob (s : State) : exec .writeEob s = finish (writeSymbol .ll 256 s) := rfl
theorem exec_writeMatch (l d : Nat) (s : State) : exec (.writeMatch l d) s = finish (opWriteMatch l d s) := rfl

/-- Settles O24: each write tests its symbols' lengths first, and the loops end at the first symbol without one. -/
theorem symbolWithoutCodeRaisesInternal : Obligations.SymbolWithoutCodeRaisesInternal := by
  intro s
  refine ⟨fun b hb => ?literal, fun heob => ?eob, fun i a x v n h hx => ?element, fun l d c e hc he hll => ?length,
    fun l d c e hc he hll hdd => ?distance, fun ⟨x, hx, _, hbad⟩ => ?tokens, fun ⟨x, hx, _, hbad⟩ => ?tuples⟩
  case literal => rw [exec_writeLiteral, writeSymbol_uncoded .ll _ s hb, finish_raise]
  case eob => rw [exec_writeEob, writeSymbol_uncoded .ll _ s heob, finish_raise]
  case element =>
    cases hwf : i.wf with
    | false => exact exec_coded_of_not_wf s h hwf
    | true => rw [exec_coded s h hwf, writeCoded_uncoded a x v n s hx, finish_raise]
  case length => rw [exec_writeMatch, opWriteMatch_cases s hc he, if_pos hll, finish_raise]
  case distance =>
    rw [exec_writeMatch, opWriteMatch_cases s hc he, if_neg hll, if_pos hdd, finish_raise]
    rfl
  case tokens => exact (opWriteTokens_raises ⟨x, hx, fun hg => hbad hg.2⟩).finish
  case tuples => exact (opWriteRle_raises ⟨x, hx, fun hg => hg.2 hbad⟩).finish

theorem inputSeq_ok {maxInput : Nat} {s : State} (h : s.n ≤ maxInput) :
    s.inputSeq maxInput = .ok ((List.range s.n).map s.inByte) := if_pos h

theorem inputSeq_fault {maxInput : Nat} {s : State} (h : maxInput < s.n) :
    s.inputSeq maxInput = .error (.fault .inputAddress) := if_neg (Nat.not_le.mpr h)

/-- Settles O25: each operation tests its operand or register first, and the loops end at the first item out of
range. -/
theorem outOfRangeOperandsRaiseInternal : Obligations.OutOfRangeOperandsRaiseInternal := by
  intro s
  have not_wf {α : Type} {P : α → Bool} {x : α} (h : P x = false) : ¬ P x = true := by simp [h]
  refine ⟨fun l hl => ?length, fun d hd => ?dist, fun l d hld => ?pair, fun hn hp => ?step, fun a hlive => ?extract,
    fun hregs => ?header, fun a ha => ⟨?hlit, ?hdist⟩, rfl, fun ⟨x, hx, hwf⟩ => ⟨?tally, ?tokens⟩,
    fun ⟨x, hx, hwf⟩ => ⟨?clTally, ?tuples⟩⟩
  case length => simp only [exec, execLengthLookup, opLengthLookup, lengthLookup_eq_none hl, finish_raise]
  case dist => simp only [exec, execDistLookup, opDistLookup, distLookup_eq_none hd, finish_raise]
  case pair => rw [exec_writeMatch, opWriteMatch_of_none s (lookups_of_not_wf hld), finish_raise]
  case step =>
    have hnone : ((List.range s.n).map s.inByte)[s.p]? = none := List.getElem?_eq_none (by simpa using hp)
    simp only [exec, execLzStep, opLzStep, inputSeq_ok (maxInput := Config.defaultMaxInput) hn, lzStepOn, hnone,
      finish_raise]
  case extract =>
    have hop : opHuffExtract a s = raise .internal s := by
      unfold opHuffExtract
      split
      next root hroot => exact absurd (congrArg List.length hroot) hlive
      next => rfl
    exact congrArg finish hop
  case header =>
    have hrange : ¬ s.headerInRange = true := by
      simp only [State.headerInRange, Bool.and_eq_true, decide_eq_true_eq]
      omega
    exact congrArg finish (if_neg hrange)
  case hlit | hdist => exact congrArg finish (if_neg (Nat.not_le.mpr ha))
  case tally =>
    obtain ⟨t, ht, herr, hcode, -⟩ := (opTally_raises ⟨x, hx, not_wf hwf⟩).finish
    exact ⟨t, ht, herr, hcode⟩
  case tokens =>
    obtain ⟨t, ht, herr, hcode, -⟩ := (opWriteTokens_raises ⟨x, hx, fun hg => not_wf hwf hg.1⟩).finish
    exact ⟨t, ht, herr, hcode⟩
  case clTally =>
    obtain ⟨t, ht, herr, hcode, -⟩ := (opClTally_raises ⟨x, hx, not_wf hwf⟩).finish
    exact ⟨t, ht, herr, hcode⟩
  case tuples =>
    obtain ⟨t, ht, herr, hcode, -⟩ := (opWriteRle_raises ⟨x, hx, fun hg => not_wf hwf hg.1⟩).finish
    exact ⟨t, ht, herr, hcode⟩

end Sys2Proof.Machine
end

section
/-! PROOFS. The sections of the block (R157 to R162) as the sections' `_ok` lemmas give them, and the sizes (R150 to
R152). -/

namespace Sys2Proof.Machine

/-- Settles O51: every tuple is legal and its symbol has a code. -/
theorem codeLengthSection : Obligations.CodeLengthSection := fun s h => congrArg finish (opWriteRle_ok s h)

/-- Settles O53: every token is legal and its symbols have codes. -/
theorem tokenSection : Obligations.TokenSection := fun s h => congrArg finish (opWriteTokens_ok s h)

/-- Settles O52: the writes of `writeSymbol_coded`, and the match of `opWriteMatch_cases`. -/
theorem tokenElements : Obligations.TokenElements := by
  intro s
  refine ⟨fun b hb => congrArg finish (writeSymbol_coded .ll _ s hb), fun heob => congrArg finish (opWriteEob_ok s heob),
    fun l d c e hc he hll hdd => ?_⟩
  rw [exec_writeMatch, opWriteMatch_cases s hc he, if_neg hll, if_neg hdd, finish_ok, lengthBits, distBits,
    ← List.append_assoc]
  rfl

/-- Fields of one width: the i-th begins at i times the width. -/
theorem drop_flatMap_of_length {α : Type} {f : α → List Bit} {w : Nat} (hf : ∀ x, (f x).length = w) (i : Nat)
    (xs : List α) : (xs.flatMap f).drop (w * i) = (xs.drop i).flatMap f := by
  induction i generalizing xs with
  | zero => simp
  | succ i ih =>
    cases xs with
    | nil => simp
    | cons x xs =>
      rw [List.flatMap_cons, Nat.mul_succ, Nat.add_comm, ← List.drop_drop, List.drop_left' (hf x), ih,
        List.drop_succ_cons]

/-- Settles O50: the section is a field of 3 bits for each symbol, and a field reads back by `ofLsbBits_field`. -/
theorem metaLengthFields : Obligations.MetaLengthFields := by
  intro s hclen hcap
  have hcount : (clOrder.take s.hclen).length = s.hclen := by
    rw [List.length_take]
    exact Nat.min_eq_left hclen
  refine ⟨cllenBits s (clOrder.take s.hclen), ?_, ?_, fun i hi => ?_⟩
  · have hwrite := congrArg finish (opWriteCllens_ok s)
    rwa [hcount] at hwrite
  · simp only [cllenBits, List.length_flatMap, length_lsbBits, List.map_const', List.sum_replicate, smul_eq_mul, hcount,
      Nat.mul_comm]
  · have hdrop : (clOrder.take s.hclen).drop i =
        clOrder.getD i 0 :: (clOrder.take s.hclen).drop (i + 1) := by
      rw [List.drop_eq_getElem_cons (by rwa [hcount]), List.getElem_take, List.getD_eq_getElem]
    have hfield : (cllenBits s (clOrder.take s.hclen)).drop (3 * i) =
        lsbBits (s.cllen.getD (clOrder.getD i 0) 0) 3 ++ cllenBits s ((clOrder.take s.hclen).drop (i + 1)) := by
      rw [cllenBits, drop_flatMap_of_length (fun _ => length_lsbBits _ 3), hdrop, List.flatMap_cons]
      rfl
    exact ofLsbBits_field hfield (Nat.lt_of_le_of_lt (getD_le hcap _) (by decide))

theorem usedLength_cons (x : Nat) (xs : List Nat) :
    usedLength (x :: xs) = if usedLength xs = 0 then (if x = 0 then 0 else 1) else usedLength xs + 1 := by
  rw [usedLength]
  cases usedLength xs <;> rfl

theorem usedLength_eq_zero {L : List Nat} (h : ∀ k, L.getD k 0 = 0) : usedLength L = 0 := by
  induction L with
  | nil => rfl
  | cons x xs ih =>
    have hx : x = 0 := h 0
    rw [usedLength_cons, ih fun k => h (k + 1), if_pos rfl, if_pos hx]

/-- The index of the last non-zero entry, and 1. -/
theorem usedLength_eq_succ {L : List Nat} {m : Nat} (hm : L.getD m 0 ≠ 0) (hlast : ∀ k, m < k → L.getD k 0 = 0) :
    usedLength L = m + 1 := by
  induction L generalizing m with
  | nil => simp at hm
  | cons x xs ih =>
    rw [usedLength_cons]
    cases m with
    | zero =>
      have hx : x ≠ 0 := hm
      rw [usedLength_eq_zero fun k => hlast (k + 1) (Nat.succ_pos k), if_pos rfl, if_neg hx]
    | succ m =>
      rw [ih hm fun k hk => hlast (k + 1) (Nat.succ_lt_succ hk), if_neg (Nat.succ_ne_zero m)]

theorem getD_map_clOrder (L : List Nat) {j : Nat} (hj : j < 19) :
    (clOrder.map fun c => L.getD c 0).getD j 0 = L.getD (clOrder.getD j 0) 0 := by
  have hlen : j < clOrder.length := hj
  simp [List.getD_eq_getElem?_getD, List.getElem?_eq_getElem hlen]

theorem getD_map_clOrder_of_ge (L : List Nat) {j : Nat} (hj : 19 ≤ j) :
    (clOrder.map fun c => L.getD c 0).getD j 0 = 0 :=
  List.getD_eq_default _ _ (by simpa [clOrder] using hj)

/-- Settles O48: each size is the minimum or the `usedLength` of its vector. -/
theorem sizesComeFromTheLastUsedSymbol : Obligations.SizesComeFromTheLastUsedSymbol := by
  intro s
  have inOrder {j : Nat} (h : ∀ k, j < k → k < 19 → s.cllen.getD (clOrder.getD k 0) 0 = 0) (k : Nat) (hk : j < k) :
      (clOrder.map fun c => s.cllen.getD c 0).getD k 0 = 0 := by
    rcases Nat.lt_or_ge k 19 with hk19 | hk19
    · rw [getD_map_clOrder _ hk19, h k hk hk19]
    · exact getD_map_clOrder_of_ge _ hk19
  refine ⟨_, _, _, rfl, rfl, rfl, fun m hm hlast => ?_, fun h => ?_, fun m hm hlast => ?_, fun h => ?_,
    fun j hj hne hlast => ?_, fun h => ?_⟩
  · rw [usedLength_eq_succ hm hlast]
  · rw [usedLength_eq_zero h]; rfl
  · rw [usedLength_eq_succ hm hlast]
  · rw [usedLength_eq_zero h]; rfl
  · rw [usedLength_eq_succ (by rwa [getD_map_clOrder _ hj]) (inOrder hlast)]
  · rw [usedLength_eq_zero fun k => ?_]; rfl
    rcases Nat.lt_or_ge k 19 with hk19 | hk19
    · rw [getD_map_clOrder _ hk19, h k hk19]
    · exact getD_map_clOrder_of_ge _ hk19

end Sys2Proof.Machine
end

section
/-! PROOFS. What TALLY (R120 to R122) and CL_TALLY (R148) add to each entry. -/

namespace Sys2Proof.Machine

theorem getD_foldl_bump (xs : List Nat) {t : List Nat} {x : Nat} (hx : x < t.length) :
    (xs.foldl bump t).getD x 0 = t.getD x 0 + xs.count x := by
  induction xs generalizing t with
  | nil => rfl
  | cons y xs ih =>
    rw [List.foldl_cons, ih (by simpa using hx), getD_bump, List.count_cons]
    by_cases h : x = y
    · subst h
      rw [if_pos ⟨rfl, hx⟩, beq_self_eq_true, if_pos rfl, Nat.add_right_comm, Nat.add_assoc]
    · simp [h, Ne.symm h]

theorem count_filterMap {α : Type} (f : α → Option Nat) (xs : List α) (y : Nat) :
    (xs.filterMap f).count y = xs.countP fun x => f x == some y := by
  induction xs with
  | nil => rfl
  | cons x xs ih =>
    cases hx : f x with
    | none => simp [hx, ih]
    | some z => simp [hx, ih, List.count_cons, List.countP_cons]

/-- Settles O37: TALLY bumps the tokens' symbols and symbol 256, by `opTally_ok`. -/
theorem tallyCountsTheSymbols : Obligations.TallyCountsTheSymbols := by
  intro s hwf hll hdd
  refine ⟨_, _, congrArg finish (opTally_ok s hwf), by rw [length_foldl_bump, hll], by rw [length_foldl_bump, hdd],
    fun x hx => ?_, fun x hx => ?_⟩
  · have heob : [256].count x = if x = 256 then 1 else 0 := by
      rw [List.count_singleton, Bool.beq_comm]
      simp only [beq_iff_eq]
    rw [getD_foldl_bump _ (by rwa [hll]), List.count_append, count_filterMap, heob, Nat.add_assoc]
  · rw [getD_foldl_bump _ (by rwa [hdd]), count_filterMap]

/-- Settles O47: CL_TALLY bumps the tuples' symbols, by `opClTally_ok`. -/
theorem clTallyCountsTheTuples : Obligations.ClTallyCountsTheTuples := by
  intro s hwf hlen
  refine ⟨_, congrArg finish (opClTally_ok s hwf), by rw [length_foldl_bump, hlen], fun x hx => ?_⟩
  rw [getD_foldl_bump _ (by rwa [hlen]), List.count, List.countP_map]
  rfl

end Sys2Proof.Machine
end

section
/-! PROOFS. Packing and unpacking (R43, R45, R96), the padding (R46, R77), and the streaming BitWriter (R97). -/

namespace Sys2Proof.Machine

theorem testBit_ofLsbBits (bs : List Bit) (j : Nat) : (ofLsbBits bs).testBit j = bs.getD j false := by
  induction bs generalizing j with
  | nil => simp [ofLsbBits]
  | cons b bs ih =>
    have hdiv : (b.toNat + 2 * ofLsbBits bs) / 2 = ofLsbBits bs := by
      have := b.toNat_lt
      omega
    cases j with
    | zero => cases b <;> simp [ofLsbBits, Nat.testBit_zero]
    | succ j => rw [ofLsbBits, Nat.testBit_succ, hdiv, ih, List.getD_cons_succ]

theorem getLsbD_packByte (bs : List Bit) {j : Nat} (hj : j < 8) : (packByte bs).getLsbD j = bs.getD j false := by
  rw [packByte, BitVec.getLsbD_ofNat, testBit_ofLsbBits]
  simp [hj, List.getD_eq_getElem?_getD]

theorem getD_append_padBits (bs : List Bit) (j : Nat) : (bs ++ padBits bs.length).getD j false = bs.getD j false := by
  rcases Nat.lt_or_ge j bs.length with hj | hj
  · rw [List.getD_append _ _ _ _ hj]
  · rw [List.getD_append_right _ _ _ _ hj, List.getD_eq_default bs _ hj, padBits]
    simp

/-- Settles O29: PAD is the write of the last byte, whose bits are those of the stream and zeros. -/
theorem padCompletesTheLastByte : Obligations.PadCompletesTheLastByte := by
  intro s
  refine ⟨fun h => congrArg finish (if_pos h), fun hpartial hfits => ?_⟩
  have hpad : opPad Config.defaultMaxInput s =
      .ok { s with out := Memory.write s.out (s.nbits / 8) (packByte (s.bits.drop (8 * (s.nbits / 8)))) } :=
    (if_neg hpartial).trans (if_pos hfits)
  refine ⟨_, _, congrArg finish hpad, Memory.read_write_same _ _ _, fun j hj => ?_,
    fun k hk => Memory.read_write_other _ _ _ _ hk, Memory.wf_write _ _ _⟩
  rw [getLsbD_packByte _ hj, getD_append_padBits, List.getD_eq_getElem?_getD, List.getElem?_drop,
    List.getD_eq_getElem?_getD]

theorem packByte_lsbBits (x : Byte) (rest : List Bit) : packByte (lsbBits x.toNat 8 ++ rest) = x := by
  rw [packByte, ofLsbBits_take_append, Nat.mod_eq_of_lt x.isLt]
  simp

/-- The first 8 bits make the first byte. -/
theorem bitsToBytes_append {c : List Bit} (hc : c.length = 8) (bs : List Bit) :
    bitsToBytes (c ++ bs) = packByte c :: bitsToBytes bs := by
  have hlen : ((c ++ bs).length + 7) / 8 = (bs.length + 7) / 8 + 1 := by
    rw [List.length_append, hc]
    omega
  have hfirst : packByte (c ++ bs) = packByte c := by
    rw [packByte, packByte, List.take_left' hc, List.take_of_length_le (Nat.le_of_eq hc)]
  have hrest (k : Nat) : (c ++ bs).drop (8 * (k + 1)) = bs.drop (8 * k) := by
    rw [Nat.mul_succ, Nat.add_comm, ← List.drop_drop, List.drop_left' hc]
  rw [bitsToBytes, hlen, List.range_succ_eq_map, List.map_cons, List.map_map]
  simp only [Nat.mul_zero, List.drop_zero, hfirst, bitsToBytes, Function.comp_def, Nat.succ_eq_add_one, hrest]

/-- Fewer than 8 bits make one byte, or none if there are none. -/
theorem bitsToBytes_short {bs : List Bit} (h : bs.length < 8) :
    bitsToBytes bs = if bs = [] then [] else [packByte bs] := by
  split
  next hnil => subst hnil; rfl
  next hne =>
    have hone : (bs.length + 7) / 8 = 1 := by
      have := List.length_pos_of_ne_nil hne
      omega
    rw [bitsToBytes, hone]
    rfl

theorem bytesToBits_cons (x : Byte) (xs : List Byte) : bytesToBits (x :: xs) = lsbBits x.toNat 8 ++ bytesToBits xs := rfl

theorem bitsToBytes_bytesToBits (xs : List Byte) : bitsToBytes (bytesToBits xs) = xs := by
  induction xs with
  | nil => rfl
  | cons x xs ih =>
    have hx := packByte_lsbBits x []
    rw [List.append_nil] at hx
    rw [bytesToBits_cons, bitsToBytes_append (length_lsbBits _ 8), ih, hx]

/-- A packed byte unpacks to its bits and zeros. -/
theorem lsbBits_packByte {bs : List Bit} (h : bs.length ≤ 8) :
    lsbBits (packByte bs).toNat 8 = bs ++ List.replicate (8 - bs.length) false := by
  refine List.ext_getElem (by simp; omega) fun j hj _ => ?_
  have hj8 : j < 8 := by simpa using hj
  have hbit : (packByte bs).toNat.testBit j = bs.getD j false := getLsbD_packByte bs hj8
  simp only [lsbBits, List.getElem_map, List.getElem_range, hbit, List.getElem_append]
  split
  next hlt => exact List.getD_eq_getElem _ _ hlt
  next hge => rw [List.getD_eq_default _ _ (Nat.le_of_not_lt hge), List.getElem_replicate]

theorem padBits_add_eight (n : Nat) : padBits (n + 8) = padBits n := by
  simp [padBits]

/-- Unpacking gives the bits and the padding of their last byte (R45, R46). -/
theorem bytesToBits_bitsToBytes (bs : List Bit) : bytesToBits (bitsToBytes bs) = bs ++ padBits bs.length := by
  induction hn : bs.length using Nat.strong_induction_on generalizing bs with
  | _ n ih =>
  rcases Nat.lt_or_ge bs.length 8 with hshort | hlong
  · rw [bitsToBytes_short hshort]
    split
    next hnil => subst hnil; subst hn; rfl
    next hne =>
      have hpos := List.length_pos_of_ne_nil hne
      have hpad : (8 - bs.length % 8) % 8 = 8 - bs.length := by omega
      rw [bytesToBits_cons, lsbBits_packByte hshort.le, ← hn, padBits, hpad]
      simp [bytesToBits]
  · have hc : (bs.take 8).length = 8 := by simpa using hlong
    have hrest : (bs.drop 8).length + 8 = bs.length := by simp; omega
    have hunpack := ih (bs.drop 8).length (by omega) (bs.drop 8) rfl
    have hbyte := lsbBits_packByte (bs := bs.take 8) hc.le
    rw [hc, Nat.sub_self, List.replicate_zero, List.append_nil] at hbyte
    conv_lhs => rw [← List.take_append_drop 8 bs]
    rw [bitsToBytes_append hc, bytesToBits_cons, hunpack, hbyte, ← List.append_assoc, List.take_append_drop, ← hn,
      ← hrest, padBits_add_eight]

theorem ofLsbBits_append_singleton (bs : List Bit) (b : Bit) :
    ofLsbBits (bs ++ [b]) = ofLsbBits bs + b.toNat * 2 ^ bs.length := by
  induction bs with
  | nil => simp [ofLsbBits]
  | cons c bs ih =>
    rw [List.cons_append, ofLsbBits, ih, ofLsbBits, List.length_cons, Nat.pow_succ]
    ring

theorem packByte_of_le {bs : List Bit} (h : bs.length ≤ 8) : packByte bs = BitVec.ofNat 8 (ofLsbBits bs) := by
  rw [packByte, List.take_of_length_le h]

/-- The streaming BitWriter after the bits `full ++ rest`: the whole bytes are written, the rest is accumulated (R97). -/
def Streamer.Holds (w : Streamer) (bs : List Bit) : Prop :=
  ∃ full rest : List Bit, bs = full ++ rest ∧ rest.length < 8 ∧ 8 * w.bytes.length = full.length ∧
    (∀ more, bitsToBytes (full ++ more) = w.bytes ++ bitsToBytes more) ∧ w.acc = ofLsbBits rest ∧
    w.count = rest.length

theorem Streamer.holds_push {w : Streamer} {bs : List Bit} (h : w.Holds bs) (b : Bit) : (w.push b).Holds (bs ++ [b]) := by
  obtain ⟨full, rest, rfl, hlt, hbytes, hpack, hacc, hcount⟩ := h
  have hvalue : w.acc + b.toNat * 2 ^ w.count = ofLsbBits (rest ++ [b]) := by
    rw [hacc, hcount, ofLsbBits_append_singleton]
  unfold Streamer.push
  split
  next hfull =>
    have hbyte : (rest ++ [b]).length = 8 := by rw [List.length_append, List.length_singleton, ← hcount, hfull]
    refine ⟨full ++ (rest ++ [b]), [], by simp, by simp, ?_, fun more => ?_, rfl, rfl⟩
    · rw [List.length_append, List.length_append (as := full), hbyte, ← hbytes, List.length_singleton, Nat.mul_add]
    · rw [List.append_assoc, hpack, bitsToBytes_append hbyte, hvalue, packByte_of_le hbyte.le, List.append_assoc]
      rfl
  next hpartial =>
    refine ⟨full, rest ++ [b], by simp, ?_, hbytes, hpack, hvalue, by simp [hcount]⟩
    rw [List.length_append, List.length_singleton]
    omega

theorem Streamer.holds_foldl (bs : List Bit) : (bs.foldl Streamer.push ⟨[], 0, 0⟩).Holds bs := by
  induction bs using List.reverseRecOn with
  | nil => exact ⟨[], [], rfl, by decide, rfl, fun _ => rfl, rfl, rfl⟩
  | append_singleton bs b ih =>
    rw [List.foldl_append]
    exact Streamer.holds_push ih b

theorem Streamer.finish_of_holds {w : Streamer} {bs : List Bit} (h : w.Holds bs) : w.finish = bitsToBytes bs := by
  obtain ⟨full, rest, rfl, hlt, -, hpack, hacc, hcount⟩ := h
  rw [hpack, bitsToBytes_short hlt, Streamer.finish, hcount, hacc]
  by_cases hnil : rest = []
  · simp [hnil]
  · rw [if_pos (List.length_pos_of_ne_nil hnil), if_neg hnil, packByte_of_le hlt.le]

/-- Settles O30: packing and unpacking byte by byte, and the streaming form holds whole bytes and a rest. -/
theorem packingUnpackingAndStreamingAgree : Obligations.PackingUnpackingAndStreamingAgree := by
  refine ⟨bitsToBytes_bytesToBits, length_bitsToBytes, bytesToBits_bitsToBytes, fun B => ?_⟩
  have hholds := Streamer.holds_foldl B
  refine ⟨Streamer.finish_of_holds hholds, ?_⟩
  obtain ⟨full, rest, hB, -, hbytes, -, -, hcount⟩ := hholds
  conv_rhs => rw [hB]
  rw [hbytes, hcount, List.length_append]

end Sys2Proof.Machine
end

section
/-! PROOFS. The step (R18, R165, R166): a move of the engine, the issued operations, the end of a phase; STATUS and
reset. -/

namespace Sys2Proof.Machine

theorem step_silent {s : State} (h : s.hostQ = []) : step s = engineStep s := by
  simp only [step, h]

theorem step_wait {s : State} {q : List HostTurn} (h : s.hostQ = .wait :: q) :
    step s = engineStep { s with hostQ := q } := by
  simp only [step, h]

theorem engineStep_not_busy {s : State} (h : s.busy = false) : engineStep s = .next s := by
  simp [engineStep, h]

theorem engineStep_issued {s : State} {w : OpWord} {rest : List OpWord} {i : Instr} (hbusy : s.busy = true)
    (hq : s.opq = w :: rest) (hw : decode w = .ok i) : engineStep s = exec i { s with opq := rest } := by
  simp only [engineStep, hbusy, if_true, hq, hw]

theorem engineStep_idle {s : State} (hbusy : s.busy = true) (hq : s.opq = []) :
    engineStep s = finish (advance Config.defaultMaxInput s) := by
  simp only [engineStep, hbusy, if_true, hq]

/-- Settles O1: the engine fetches the first issued word, whoever let it move. -/
theorem stepRunsTheIssuedInstruction : Obligations.StepRunsTheIssuedInstruction := by
  intro s w rest i hbusy hq hw
  refine ⟨fun hsilent => ?_, fun q hwait => ?_⟩
  · rw [step_silent hsilent, engineStep_issued hbusy hq hw]
  · rw [step_wait hwait]
    exact engineStep_issued (s := { s with hostQ := q }) hbusy hq hw

/-- Settles O2: the engine's move needs BUSY=1. -/
theorem engineIsQuiescentUnlessBusy : Obligations.EngineIsQuiescentUnlessBusy := by
  intro s hbusy
  refine ⟨fun hsilent => ?_, fun q hwait => ?_⟩
  · rw [step_silent hsilent, engineStep_not_busy hbusy]
  · rw [step_wait hwait]
    exact engineStep_not_busy (s := { s with hostQ := q }) hbusy

theorem sizeCheck_ok {maxInput : Nat} {s : State} (h : s.n ≤ maxInput) : sizeCheck maxInput s = .ok s :=
  if_neg (Nat.not_lt.mpr h)

theorem sizeCheck_raise {maxInput : Nat} {s : State} (h : maxInput < s.n) :
    sizeCheck maxInput s = raise .inputTooLarge s := if_pos h

/-- The phases whose end is the move to the next one, with that one (R18, R166). -/
def phaseMoves : List (Phase × Phase) :=
  [(.lz77, .tally), (.tally, .huffLL), (.huffLL, .huffDD), (.huffDD, .sizesRle), (.sizesRle, .huffCL), (.huffCL, .writeHdr),
    (.writeHdr, .writeCllen), (.writeCllen, .writeRle), (.writeRle, .writeTok), (.writeTok, .writeEob),
    (.writeEob, .finalize)]

theorem advance_phaseMove {maxInput : Nat} {s : State} {e : Phase × Phase} (he : e ∈ phaseMoves) (hs : s.phase = e.1) :
    advance maxInput s = .ok (s.enter e.2) := by
  simp only [phaseMoves, List.mem_cons, List.not_mem_nil, or_false] at he
  rcases he with rfl | rfl | rfl | rfl | rfl | rfl | rfl | rfl | rfl | rfl | rfl <;> simp only [advance, hs]

theorem advance_idle {maxInput : Nat} {s : State} (hs : s.phase = .idle) :
    advance maxInput s = andThen (sizeCheck maxInput s) fun s => .ok (s.enter .lz77) := by
  simp only [advance, hs]

theorem advance_finalize {maxInput : Nat} {s : State} (hs : s.phase = .finalize) :
    advance maxInput s = .ok s.complete := by
  simp only [advance, hs]

/-- Settles O3: with nothing issued the step is `advance`, phase by phase. -/
theorem phasesFollowInTheFixedOrder : Obligations.PhasesFollowInTheFixedOrder := by
  refine ⟨rfl, fun s hbusy hsilent hq => ?_⟩
  have hstep : step s = finish (advance Config.defaultMaxInput s) := by
    rw [step_silent hsilent, engineStep_idle hbusy hq]
  refine ⟨fun hs hn => ?_, fun hs hn => ?_, fun e he hs => ?_, fun hs => ?_⟩
  · rw [hstep, advance_idle hs, sizeCheck_ok (maxInput := Config.defaultMaxInput) hn]
    rfl
  · rw [hstep, advance_idle hs, sizeCheck_raise (maxInput := Config.defaultMaxInput) hn, andThen_raise, finish_raise]
  · rw [hstep, advance_phaseMove he hs]
    rfl
  · rw [hstep, advance_finalize hs, finish_ok, State.complete, State.flagsDone, ← hq]

/-- Settles O6: every clause is about literal values. -/
theorem resetSatisfiesTheInvariant : Obligations.ResetSatisfiesTheInvariant := by
  refine ⟨?_, List.nil_suffix⟩
  exact {
    busyAlone := nofun
    doneAlone := nofun
    phaseDone := by decide
    phaseError := by decide
    phaseIdle := fun _ _ _ => rfl
    errcodeErr := by decide
    quiet := fun _ => rfl
    issued := nofun
    inputFits := nofun
    noResult := fun _ _ => rfl
    outListed := nofun
    freqSize := fun a => by cases a <;> exact List.length_replicate
    lensSize := fun a => by cases a <;> exact List.length_replicate
    codesSize := fun a => by cases a <;> exact List.length_replicate
    lensCap := fun a l hl => by
      have hzero : l = 0 := by cases a <;> exact List.eq_of_mem_replicate hl
      exact hzero ▸ Nat.zero_le _
    hlitRange := .inl rfl
    hdistRange := .inl rfl
    hclenRange := .inl rfl
    tokRange := nofun
    rleRange := nofun
    rleCount := by decide
    liveRises := .nil
    liveInNode := nofun
    inWf := rfl
    outWf := rfl
    inRange := nofun
    outRange := nofun }

/-- Settles O8: STATUS is a word of one byte, of which there are few. -/
theorem statusWordHasItsFields : Obligations.StatusWordHasItsFields := by
  refine ⟨rfl, fun s => ?_⟩
  have fields : ∀ (b d e : Bool) (ph : Nat), ph < 16 →
      (BitVec.ofNat 32 (b.toNat + 2 * d.toNat + 4 * e.toNat + 16 * ph)).getLsbD 0 = b ∧
      (BitVec.ofNat 32 (b.toNat + 2 * d.toNat + 4 * e.toNat + 16 * ph)).getLsbD 1 = d ∧
      (BitVec.ofNat 32 (b.toNat + 2 * d.toNat + 4 * e.toNat + 16 * ph)).getLsbD 2 = e ∧
      (BitVec.ofNat 32 (b.toNat + 2 * d.toNat + 4 * e.toNat + 16 * ph)).getLsbD 3 = false ∧
      ((BitVec.ofNat 32 (b.toNat + 2 * d.toNat + 4 * e.toNat + 16 * ph)).extractLsb' 4 4).toNat = ph := by
    decide
  have hphase : s.phase.code < 16 := by cases s.phase <;> decide
  obtain ⟨hb, hd, he, hz, hp⟩ := fields s.busy s.done s.err s.phase.code hphase
  refine ⟨hb, hd, he, hz, hp, fun k hk => ?_⟩
  have hbyte : s.busy.toNat + 2 * s.done.toNat + 4 * s.err.toNat + 16 * s.phase.code < 2 ^ 8 := by
    have := s.busy.toNat_lt
    have := s.done.toNat_lt
    have := s.err.toNat_lt
    omega
  rw [State.statusWord, BitVec.getLsbD_ofNat,
    Nat.testBit_lt_two_pow (Nat.lt_of_lt_of_le hbyte (Nat.pow_le_pow_right (by decide) hk)), Bool.and_false]

end Sys2Proof.Machine
end

section
/-! PROOFS. The host's transactions (R12 to R17, R57, R168, R195), each as the one step it is. -/

namespace Sys2Proof.Machine

theorem HostReg.number_of_ofNumber {k : Nat} {r : HostReg} (h : HostReg.ofNumber k = some r) : r.number = k := by
  unfold HostReg.ofNumber at h
  split at h <;> cases h <;> rfl

theorem HostReg.ofNumber_eq_none {k : Nat} (h : 5 ≤ k) : HostReg.ofNumber k = none := by
  unfold HostReg.ofNumber
  split
  case h_6 => rfl
  all_goals omega

theorem step_readReg {s : State} {k : Nat} {q : List HostTurn} {r : HostReg} (h : s.hostQ = .act (.readReg k) :: q)
    (hr : HostReg.ofNumber k = some r) : step s = .next { s with hostQ := q, hostData := s.readReg r } := by
  rw [step_act h]
  simp only [hostStep, hostReadReg, hr]
  rfl

/-- Settles O9: the register of the number is read by `readReg`, whose values are those named. -/
theorem hostReadsTheRegisters : Obligations.HostReadsTheRegisters := by
  refine ⟨rfl, fun s k q hq => ⟨fun r hr => ⟨HostReg.number_of_ofNumber hr, ?_⟩, fun hk => ?_⟩⟩
  · rw [step_readReg hq hr]
    cases r
    case errcode => cases he : s.errcode <;> simp only [State.readReg, he, ErrCode.code] <;> rfl
    all_goals rfl
  · rw [step_act hq]
    simp only [hostStep, hostReadReg, HostReg.ofNumber_eq_none hk]

theorem hostWriteIn_not_busy {maxInput k : Nat} {v : Byte} {s : State} (hbusy : s.busy = false) (hk : k < maxInput) :
    hostWriteIn maxInput k v s = .next { s with inp := Memory.write s.inp k v } := by
  simp [hostWriteIn, hbusy, hk]

/-- Settles O10: the transactions' tests of BUSY, of the index and of the number, case by case. -/
theorem hostWritesTheInputWhileNotBusy : Obligations.HostWritesTheInputWhileNotBusy := by
  intro s q
  refine ⟨fun v hq => ⟨fun hbusy => ?_, fun hbusy => ?_⟩,
    fun k v hq => ⟨fun hbusy hk => ?_, fun hbusy hk => ?_, fun hbusy => ?_⟩,
    fun k v hq => ⟨fun hk => ?_, fun hk => ?_⟩⟩
  · rw [step_act hq]
    simp [hostStep, hostWriteReg, HostReg.ofNumber, hostWriteInLen, hbusy]
  · rw [step_act hq]
    simp [hostStep, hostWriteReg, HostReg.ofNumber, hostWriteInLen, hbusy]
  · refine ⟨_, ?_, Memory.read_write_same s.inp k v, fun j hj => Memory.read_write_other _ _ _ _ hj,
      Memory.wf_write _ _ _⟩
    rw [step_act hq]
    exact hostWriteIn_not_busy (s := { s with hostQ := q }) hbusy hk
  · rw [step_act hq]
    have hk : ¬ k < Config.defaultMaxInput := Nat.not_lt.mpr hk
    simp [hostStep, hostWriteIn, hbusy, hk]
  · rw [step_act hq]
    simp [hostStep, hostWriteIn, hbusy]
  · rw [step_act hq]
    rcases hk with rfl | rfl | rfl <;> rfl
  · rw [step_act hq]
    simp only [hostStep, hostWriteReg, HostReg.ofNumber_eq_none hk]

theorem hostReadOut_listed {s : State} {k : Nat} {b : Byte} (hdone : s.done = true) (hk : k < s.outLen)
    (hb : Memory.read s.out k = some b) : hostReadOut k s = { s with hostData := b.setWidth 32 } := by
  simp [hostReadOut, hdone, hk, hb]

theorem hostReadOut_free {s : State} {k : Nat} (h : s.done = false ∨ s.outLen ≤ k) : hostReadOut k s =
    { s with hostData := (Config.unspecifiedOut s.fresh).setWidth 32, fresh := s.fresh + 1 } := by
  have hnot : (s.done && decide (k < s.outLen)) = false := by
    rcases h with h | h
    · simp [h]
    · simp [Nat.not_lt.mpr h]
  simp only [hostReadOut, hnot, Bool.false_eq_true, if_false]

/-- Settles O11: the read is valid or free, and the invariant lists every byte below OUT_LEN. -/
theorem hostReadsTheOutputWhenDone : Obligations.HostReadsTheOutputWhenDone := by
  intro s k q hq
  have hvalid (b : Byte) (hdone : s.done = true) (hk : k < s.outLen) (hb : Memory.read s.out k = some b) :
      step s = .next { s with hostQ := q, hostData := b.setWidth 32 } := by
    rw [step_act hq]
    exact congrArg Host.Outcome.next (hostReadOut_listed (s := { s with hostQ := q }) hdone hk hb)
  refine ⟨hvalid, fun hfree => ?_, fun hinv hdone hk => ?_⟩
  · rw [step_act hq]
    exact congrArg Host.Outcome.next (hostReadOut_free (s := { s with hostQ := q }) hfree)
  · obtain ⟨b, hb⟩ := hinv.outListed k hk
    exact ⟨b, hb, hvalid b hdone hk hb⟩

theorem hostWriteCtrl_start {v : RegWord} {s : State} (hbusy : s.busy = false) (hv : v.getLsbD 0 = true) :
    hostWriteCtrl v s = s.start := by
  simp only [hostWriteCtrl, hbusy, hv, Bool.not_false, Bool.and_true, if_true]

theorem hostWriteCtrl_clear {v : RegWord} {s : State} (hv : v.getLsbD 0 = false) : hostWriteCtrl v s = s := by
  simp only [hostWriteCtrl, hv, Bool.false_and, Bool.false_eq_true, if_false]

theorem State.start_registers (s : State) (a : Alphabet) : s.start.freq a = List.replicate a.size 0 ∧
    s.start.lens a = List.replicate a.size 0 ∧ s.start.codes a = s.codes a := by
  cases a <;> exact ⟨rfl, rfl, rfl⟩

/-- Settles O13: the step is `State.start`, whose fields are read off. -/
theorem acceptedStartClearsThePipeline : Obligations.AcceptedStartClearsThePipeline := by
  intro s v q hbusy hq
  rw [step_act hq, hostStep_writeCtrl]
  refine ⟨fun hv => ?_, fun hv => ?_⟩
  · rw [hostWriteCtrl_clear hv]
  · rw [hostWriteCtrl_start (s := { s with hostQ := q }) hbusy hv]
    exact ⟨_, rfl, rfl, rfl, rfl, rfl, rfl, rfl, rfl, rfl, rfl, rfl, rfl, rfl, rfl, rfl, rfl, rfl, rfl, rfl,
      State.start_registers _, rfl, rfl, rfl, rfl, rfl, rfl, rfl, rfl, rfl, rfl, rfl, rfl, rfl⟩

end Sys2Proof.Machine
end

section
/-! PROOFS. Error entry (R176, R179) and the accesses to indices that do not exist (log entry 22). -/

namespace Sys2Proof.Machine

theorem opCompress_tooLarge {P : Config.Params} {s : State} (h : P.maxInput < s.n) :
    opCompress P s = raise .inputTooLarge s := by
  rw [opCompress, sizeCheck_raise h, andThen_raise]

/-- Settles O23: error entry writes its fields, and the size check comes before anything else. -/
theorem errorEntryAndOversizedInput : Obligations.ErrorEntryAndOversizedInput :=
  ⟨fun _ _ => rfl, fun _ h => congrArg finish (opCompress_tooLarge (P := params) h)⟩

theorem opFinalize_fault {maxInput : Nat} {s : State} (h : Config.outMax maxInput < (s.nbits + 7) / 8) :
    opFinalize maxInput s = .error (.fault .outputAddress) := by
  obtain ⟨hfits, -⟩ | ⟨-, -, hwrite⟩ := writeBytes_cases maxInput 0 (bitsToBytes s.bits) s
  · have hlen : (bitsToBytes s.bits).length = (s.nbits + 7) / 8 := length_bitsToBytes s.bits
    rcases hfits with hfits | hnil
    · omega
    · rw [hnil, List.length_nil] at hlen
      omega
  · simp only [opFinalize, hwrite, andThen_error]

/-- Settles O26: the reads of IN and the writes of OUT test their indices. -/
theorem accessesOutsideTheBuffersFault : Obligations.AccessesOutsideTheBuffersFault := by
  intro s
  refine ⟨fun hn => ?_, fun hbytes => ⟨congrArg finish (opFinalize_fault hbytes), fun hpartial => ?_⟩⟩
  · have hin : s.inputSeq Config.defaultMaxInput = .error (.fault .inputAddress) := inputSeq_fault hn
    refine ⟨?_, ?_, ?_⟩
    · simp only [exec, execLzSearch, opLzSearch, hin, finish_fault]
    · simp only [exec, execLzStep, opLzStep, hin, finish_fault]
    · simp only [exec, execLz77, opLz77, hin, finish_fault]
  · have hindex : ¬ s.nbits / 8 < Config.outMax 10485760 := by omega
    exact congrArg finish ((if_neg hpartial).trans (if_neg hindex))

end Sys2Proof.Machine
end

section
/-! PROOFS. The search (R111 to R113): the longest common run of two places, and the fold that keeps the nearest of the
longest. -/

namespace Sys2Proof.Machine

theorem le_matchLen_iff (k l : Nat) (xs ys : List Byte) : l ≤ matchLen k xs ys ↔
    l ≤ k ∧ l ≤ xs.length ∧ l ≤ ys.length ∧ ∀ i < l, xs[i]? = ys[i]? := by
  induction k generalizing l xs ys with
  | zero =>
    simp only [matchLen, Nat.le_zero]
    refine ⟨fun h => ?_, fun h => h.1⟩
    subst h
    simp
  | succ k ih =>
    match l, xs, ys with
    | 0, _, _ => simp
    | l + 1, [], _ => simp [matchLen]
    | l + 1, _ :: _, [] => simp [matchLen]
    | l + 1, x :: xs, y :: ys =>
      have hforall : (∀ i < l + 1, (x :: xs)[i]? = (y :: ys)[i]?) ↔ x = y ∧ ∀ i < l, xs[i]? = ys[i]? := by
        refine ⟨fun h => ⟨Option.some.inj (h 0 (Nat.succ_pos l)), fun i hi => h (i + 1) (Nat.succ_lt_succ hi)⟩,
          fun ⟨h0, h⟩ i hi => ?_⟩
        cases i with
        | zero => exact congrArg some h0
        | succ i => exact h i (Nat.lt_of_succ_lt_succ hi)
      rw [hforall, matchLen, List.length_cons, List.length_cons]
      by_cases hxy : x = y
      · rw [if_pos hxy, Nat.add_le_add_iff_right, ih, Nat.add_le_add_iff_right, Nat.add_le_add_iff_right,
          Nat.add_le_add_iff_right]
        simp only [hxy, true_and]
      · simp [hxy]

/-- `mlen` of a start before the cursor (R112). -/
theorem le_mlen_iff {S : List Byte} {q p maxl l : Nat} (hq : q ≤ p) (hp : p ≤ S.length) : l ≤ mlen S q p maxl ↔
    l ≤ maxl ∧ p + l ≤ S.length ∧ ∀ i < l, S[q + i]? = S[p + i]? := by
  simp only [mlen, le_matchLen_iff, List.length_drop, List.getElem?_drop]
  constructor
  · rintro ⟨hmax, -, hlen, heq⟩
    exact ⟨hmax, by omega, heq⟩
  · rintro ⟨hmax, hlen, heq⟩
    exact ⟨hmax, by omega, by omega, heq⟩

/-- `b` is the longest candidate at the distances 1 to `m`, and the nearest of these; `f` gives the length at a
distance. -/
structure Hit.IsBest (f : Nat → Nat) (m : Nat) (b : Hit) : Prop where
  longest : ∀ d, 1 ≤ d → d ≤ m → f d ≤ b.len
  attained : b.len ≠ 0 → 1 ≤ b.dist ∧ b.dist ≤ m ∧ f b.dist = b.len
  nearest : b.len ≠ 0 → ∀ d, 1 ≤ d → d < b.dist → f d < b.len

/-- Trying the next distance keeps the nearest of the longest (R113). -/
theorem tryStart_isBest {S : List Byte} {p maxl m : Nat} {b : Hit} (hm : m < p)
    (h : b.IsBest (fun d => mlen S (p - d) p maxl) m) :
    (tryStart S p maxl b (p - 1 - m)).IsBest (fun d => mlen S (p - d) p maxl) (m + 1) := by
  have hdist : p - (p - 1 - m) = m + 1 := by omega
  have hstart : p - 1 - m = p - (m + 1) := by omega
  unfold tryStart
  split
  next hlt =>
    rw [hdist, hstart] at *
    refine ⟨fun d h1 hd => ?_, fun _ => ⟨Nat.succ_pos m, Nat.le_refl _, rfl⟩, fun _ d h1 hd => ?_⟩
    · rcases Nat.lt_or_ge d (m + 1) with hdm | hdm
      · exact Nat.le_of_lt (Nat.lt_of_le_of_lt (h.longest d h1 (Nat.le_of_lt_succ hdm)) hlt)
      · obtain rfl : d = m + 1 := Nat.le_antisymm hd hdm
        exact Nat.le_refl _
    · exact Nat.lt_of_le_of_lt (h.longest d h1 (Nat.le_of_lt_succ hd)) hlt
  next hge =>
    rw [hstart] at hge
    refine ⟨fun d h1 hd => ?_, fun hne => ?_, h.nearest⟩
    · rcases Nat.lt_or_ge d (m + 1) with hdm | hdm
      · exact h.longest d h1 (Nat.le_of_lt_succ hdm)
      · obtain rfl : d = m + 1 := Nat.le_antisymm hd hdm
        exact Nat.le_of_not_lt hge
    · obtain ⟨h1, hle, hlen⟩ := h.attained hne
      exact ⟨h1, Nat.le_succ_of_le hle, hlen⟩

theorem foldl_tryStart_isBest (S : List Byte) (p maxl : Nat) {m : Nat} (hm : m ≤ p) :
    (((List.range m).map fun k => p - 1 - k).foldl (tryStart S p maxl) ⟨0, 0⟩).IsBest
      (fun d => mlen S (p - d) p maxl) m := by
  induction m with
  | zero => exact ⟨by omega, fun h => absurd rfl h, fun h => absurd rfl h⟩
  | succ m ih =>
    rw [List.range_succ, List.map_append, List.foldl_append]
    exact tryStart_isBest hm (ih (Nat.le_of_succ_le hm))

/-- The length of the match at distance `d`, as the search at `p` measures it (R111, R112). -/
def matchedAt (S : List Byte) (p d : Nat) : Nat := mlen S (p - d) p (min 258 (S.length - p))

theorem matchedAt_le (S : List Byte) (p d : Nat) : matchedAt S p d ≤ min 258 (S.length - p) := mlen_le _ _ _ _

/-- The search answers the nearest of the longest matches of the window if that has 3 bytes (R111, R113). -/
theorem lzSearch_cases (S : List Byte) (p : Nat) :
    (∃ h, lzSearch S p = some h ∧ 3 ≤ h.len ∧ h.IsBest (matchedAt S p) (min p 32768)) ∨
      (lzSearch S p = none ∧ ∀ d, 1 ≤ d → d ≤ min p 32768 → matchedAt S p d < 3) := by
  have hbest := foldl_tryStart_isBest S p (min 258 (S.length - p)) (Nat.min_le_left p 32768)
  generalize hb : ((List.range (min p 32768)).map fun k => p - 1 - k).foldl
    (tryStart S p (min 258 (S.length - p))) ⟨0, 0⟩ = b at hbest
  have hsearch : lzSearch S p =
      if min 258 (S.length - p) < 3 then none else if 3 ≤ b.len then some b else none := by
    rw [← hb]
    rfl
  rw [hsearch]
  by_cases hshort : min 258 (S.length - p) < 3
  · exact .inr ⟨if_pos hshort, fun d _ _ => Nat.lt_of_le_of_lt (matchedAt_le S p d) hshort⟩
  · rw [if_neg hshort]
    by_cases hlong : 3 ≤ b.len
    · exact .inl ⟨b, if_pos hlong, hlong, hbest⟩
    · exact .inr ⟨if_neg hlong, fun d h1 hd => Nat.lt_of_le_of_lt (hbest.longest d h1 hd) (Nat.lt_of_not_le hlong)⟩

/-- The input as a list (R11, R41). -/
def State.input (s : State) : List Byte := (List.range s.n).map s.inByte

@[simp] theorem State.length_input (s : State) : s.input.length = s.n := by simp [State.input]

theorem State.getElem?_input {s : State} {i : Nat} (hi : i < s.n) : s.input[i]? = some (s.inByte i) := by
  simp [State.input, hi]

/-- What the search measures is the length up to which there is a match. -/
theorem matchAt_iff {s : State} (hp : s.p ≤ s.n) (d l : Nat) :
    MatchAt s d l ↔ (1 ≤ d ∧ d ≤ min s.p 32768) ∧ l ≤ matchedAt s.input s.p d := by
  rw [matchedAt, le_mlen_iff (Nat.sub_le _ _) (by simpa using hp), State.length_input]
  constructor
  · rintro ⟨h1, hdp, hd, hl, hend, heq⟩
    refine ⟨⟨h1, by omega⟩, by omega, hend, fun i hi => ?_⟩
    rw [State.getElem?_input (by omega), State.getElem?_input (by omega), heq i hi]
  · rintro ⟨⟨h1, hd⟩, hl, hend, heq⟩
    refine ⟨h1, by omega, by omega, by omega, hend, fun i hi => ?_⟩
    have := heq i hi
    rwa [State.getElem?_input (by omega), State.getElem?_input (by omega), Option.some.injEq] at this

theorem exec_lzSearch {s : State} (hn : s.n ≤ 10485760) :
    exec .lzSearch s = .next { s with best := lzSearch s.input s.p } := by
  have hin : s.inputSeq Config.defaultMaxInput = .ok s.input := inputSeq_ok hn
  simp only [exec, execLzSearch, opLzSearch, hin, finish_ok]

/-- Settles O33: the answer is best among the measured lengths, which `matchAt_iff` reads as matches. -/
theorem searchFindsTheLongestNearestMatch : Obligations.SearchFindsTheLongestNearestMatch := by
  intro s hn hp
  have hat := matchAt_iff (Nat.le_of_lt hp)
  refine ⟨_, exec_lzSearch hn, ?_⟩
  obtain ⟨h, hs, hlong, hbest⟩ | ⟨hs, hnone⟩ := lzSearch_cases s.input s.p
  · obtain ⟨h1, hle, hlen⟩ := hbest.attained (by omega)
    rw [hs]
    refine ⟨fun h' hh => ?_, nofun⟩
    obtain rfl := Option.some.inj hh
    refine ⟨hlong, (hat _ _).mpr ⟨⟨h1, hle⟩, Nat.le_of_eq hlen.symm⟩, fun d l hm => ?_⟩
    obtain ⟨⟨hd1, hd⟩, hl⟩ := (hat d l).mp hm
    refine ⟨Nat.le_trans hl (hbest.longest d hd1 hd), fun hll => ?_⟩
    by_contra hnear
    have := hbest.nearest (by omega) d hd1 (by omega)
    omega
  · rw [hs]
    refine ⟨nofun, fun _ d l hm => ?_⟩
    obtain ⟨⟨hd1, hd⟩, hl⟩ := (hat d l).mp hm
    exact Nat.lt_of_le_of_lt hl (hnone d hd1 hd)

end Sys2Proof.Machine
end

section
/-! PROOFS. The tokens of an input (R110, R114 to R116): what a step emits, the loop, and their expansion. -/

namespace Sys2Proof.Machine

/-- The token a step emits at `p` (R114). -/
def nextToken (S : List Byte) (p : Nat) : Token :=
  match lzSearch S p with
  | some h => .backRef h.len h.dist
  | none => .literal (S.getD p 0)

theorem lzStepOn_eq {S : List Byte} {s : State} (hp : s.p < S.length) : lzStepOn S s =
    .ok { s with tok := s.tok ++ [nextToken S s.p], p := s.p + (nextToken S s.p).span } := by
  simp only [lzStepOn, List.getElem?_eq_getElem hp, nextToken, List.getD_eq_getElem _ _ hp]
  cases lzSearch S s.p <;> rfl

theorem exec_lzStep {s : State} (hn : s.n ≤ 10485760) (hp : s.p < s.n) : exec .lzStep s =
    .next { s with tok := s.tok ++ [nextToken s.input s.p], p := s.p + (nextToken s.input s.p).span } := by
  have hin : s.inputSeq Config.defaultMaxInput = .ok s.input := inputSeq_ok hn
  simp only [exec, execLzStep, opLzStep, hin]
  exact congrArg finish (lzStepOn_eq (by simpa using hp))

/-- Settles O34: the step emits `nextToken`, the search's answer or the literal at the cursor. -/
theorem lzStepEmitsOneToken : Obligations.LzStepEmitsOneToken := by
  intro s hn hp
  refine ⟨_, exec_lzSearch hn, ?_, fun h hs => ?_, fun hend => ?_⟩
  · have hbyte : s.input.getD s.p 0 = s.inByte s.p := by
      rw [List.getD_eq_getElem?_getD, State.getElem?_input hp, Option.getD_some]
    rw [exec_lzStep hn hp, nextToken, hbyte]
    cases lzSearch s.input s.p <;> rfl
  · obtain ⟨h3, h258, hfits, hd1, hd⟩ := lzSearch_hit hs
    rw [State.length_input] at hfits
    exact ⟨h3, h258, hd1, hd, by omega⟩
  · refine Option.eq_none_iff_forall_ne_some.mpr fun h hs => ?_
    obtain ⟨h3, -, hfits, -⟩ := lzSearch_hit hs
    rw [State.length_input] at hfits
    omega

/-- Copying a match appends the input's next bytes (R116). -/
theorem copyBack_take {S : List Byte} {d p l : Nat} (hd1 : 1 ≤ d) (hdp : d ≤ p) (hend : p + l ≤ S.length)
    (heq : ∀ i < l, S[p - d + i]? = S[p + i]?) : copyBack d l (S.take p) = S.take (p + l) := by
  induction l generalizing p with
  | zero => rfl
  | succ l ih =>
    have hlen : (S.take p).length = p := by rw [List.length_take]; omega
    have hbyte : (S.take p).getD (p - d) 0 = S[p]'(by omega) := by
      have h0 := heq 0 (Nat.succ_pos l)
      rw [Nat.add_zero, Nat.add_zero, List.getElem?_eq_getElem (by omega : p < S.length)] at h0
      rw [List.getD_eq_getElem?_getD, List.getElem?_take_of_lt (by omega), h0, Option.getD_some]
    rw [copyBack, hlen, hbyte, ← List.take_succ_eq_append_getElem, ih (by omega) (by omega) fun i hi => ?_]
    · congr 1
      omega
    · have := heq (i + 1) (Nat.succ_lt_succ hi)
      rwa [show p - d + (i + 1) = p + 1 - d + i by omega, show p + (i + 1) = p + 1 + i by omega] at this

/-- A token emitted inside the input is legal, stands for at least one byte and at most 258 of it, and expands to
them. -/
theorem nextToken_spec {S : List Byte} {p : Nat} (hp : p < S.length) : (nextToken S p).wf = true ∧
    1 ≤ (nextToken S p).span ∧ (nextToken S p).span ≤ 258 ∧ p + (nextToken S p).span ≤ S.length ∧
    expandToken (S.take p) (nextToken S p) = S.take (p + (nextToken S p).span) := by
  obtain ⟨h, hs, -, hbest⟩ | ⟨hs, -⟩ := lzSearch_cases S p
  · obtain ⟨h3, h258, hfits, hd1, hd⟩ := lzSearch_hit hs
    obtain ⟨-, hwindow, hlen⟩ := hbest.attained (by omega)
    have hmatch := (le_mlen_iff (S := S) (maxl := min 258 (S.length - p)) (Nat.sub_le p h.dist) (Nat.le_of_lt hp)).mp
      (Nat.le_of_eq hlen.symm)
    obtain ⟨-, hend, heq⟩ := hmatch
    simp only [nextToken, hs, Token.wf, Token.span, expandToken, Bool.and_eq_true, decide_eq_true_eq]
    exact ⟨⟨⟨⟨h3, h258⟩, hd1⟩, hd⟩, by omega, h258, hend, copyBack_take hd1 (by omega) hend heq⟩
  · simp only [nextToken, hs, Token.wf, Token.span, expandToken]
    refine ⟨trivial, Nat.le_refl _, by omega, hp, ?_⟩
    rw [List.getD_eq_getElem _ _ hp, List.take_succ_eq_append_getElem]

/-- The tokens from `p` on, at most `k` of them (R110). -/
def tokensFrom (S : List Byte) : Nat → Nat → List Token
  | 0, _ => []
  | k + 1, p => if p < S.length then nextToken S p :: tokensFrom S k (p + (nextToken S p).span) else []

/-- The tokens of an input (R110). -/
def tokensOf (S : List Byte) : List Token := tokensFrom S S.length 0

theorem tokensFrom_of_lt {S : List Byte} {k p : Nat} (h : p < S.length) :
    tokensFrom S (k + 1) p = nextToken S p :: tokensFrom S k (p + (nextToken S p).span) := if_pos h

theorem tokensFrom_of_ge {S : List Byte} {k p : Nat} (h : S.length ≤ p) : tokensFrom S k p = [] := by
  cases k with
  | zero => rfl
  | succ k => exact if_neg (Nat.not_lt.mpr h)

/-- Enough rounds of the loop emit the tokens from the cursor on and bring it to the end of the input (R116). -/
theorem lz77Loop_eq {S : List Byte} {k : Nat} {s : State} (hp : s.p ≤ S.length) (hk : S.length ≤ s.p + k) :
    lz77Loop S k s = .ok { s with tok := s.tok ++ tokensFrom S k s.p, p := S.length } := by
  induction k generalizing s with
  | zero =>
    have hend : S.length = s.p := by omega
    rw [lz77Loop, tokensFrom_of_ge hend.le, hend, List.append_nil]
  | succ k ih =>
    rw [lz77Loop]
    split
    next hlt =>
      obtain ⟨-, h1, -, hle, -⟩ := nextToken_spec hlt
      rw [lzStepOn_eq hlt, andThen_ok, ih (by simpa using hle) (by simp only; omega), tokensFrom_of_lt hlt]
      simp
    next hge =>
      have hend : S.length = s.p := by omega
      rw [tokensFrom_of_ge hend.le, hend, List.append_nil]

theorem opLz77_eq {maxInput : Nat} {s : State} (hn : s.n ≤ maxInput) :
    opLz77 maxInput s = .ok { s with p := s.n, tok := tokensOf s.input } := by
  have hin : s.inputSeq maxInput = .ok s.input := inputSeq_ok hn
  have hloop := lz77Loop_eq (S := s.input) (k := s.n) (s := { s with p := 0, tok := [] }) (Nat.zero_le _) (by simp)
  simp only [opLz77, hin]
  rw [hloop, tokensOf, State.length_input, List.nil_append]

section Tokens

variable {S : List Byte} {k p : Nat}

theorem tokensFrom_wf : ∀ x ∈ tokensFrom S k p, x.wf = true := by
  induction k generalizing p with
  | zero => simp [tokensFrom]
  | succ k ih =>
    rcases Nat.lt_or_ge p S.length with hlt | hge
    · rw [tokensFrom_of_lt hlt]
      exact List.forall_mem_cons.mpr ⟨(nextToken_spec hlt).1, ih⟩
    · simp [tokensFrom_of_ge hge]

/-- The tokens from `p` on expand the input up to `p` to the whole input (R116). -/
theorem expand_tokensFrom (hp : p ≤ S.length) (hk : S.length ≤ p + k) :
    (tokensFrom S k p).foldl expandToken (S.take p) = S := by
  induction k generalizing p with
  | zero => exact List.take_of_length_le hk
  | succ k ih =>
    rcases Nat.lt_or_ge p S.length with hlt | hge
    · obtain ⟨-, h1, -, hle, hexpand⟩ := nextToken_spec hlt
      rw [tokensFrom_of_lt hlt, List.foldl_cons, hexpand, ih hle (by omega)]
    · rw [tokensFrom_of_ge hge, List.foldl_nil, List.take_of_length_le hge]

theorem length_tokensFrom (hp : p ≤ S.length) (hk : S.length ≤ p + k) :
    (tokensFrom S k p).length ≤ S.length - p ∧ S.length - p ≤ 258 * (tokensFrom S k p).length := by
  induction k generalizing p with
  | zero => simp [tokensFrom]; omega
  | succ k ih =>
    rcases Nat.lt_or_ge p S.length with hlt | hge
    · obtain ⟨-, h1, h258, hle, -⟩ := nextToken_spec hlt
      have := ih hle (by omega)
      rw [tokensFrom_of_lt hlt, List.length_cons]
      omega
    · rw [tokensFrom_of_ge hge, List.length_nil]
      omega

theorem repeat_lzStep {s : State} (hn : s.n ≤ 10485760) (hp : s.p ≤ s.n) (hk : s.n ≤ s.p + k) :
    repeatInstr .lzStep (tokensFrom s.input k s.p).length s =
      .next { s with tok := s.tok ++ tokensFrom s.input k s.p, p := s.n } := by
  have atEnd {s : State} (hend : s.p = s.n) :
      (Host.Outcome.next s : Host.Outcome State Fault Refusal) = Host.Outcome.next { s with p := s.n } :=
    congrArg (fun p => Host.Outcome.next { s with p := p }) hend
  induction k generalizing s with
  | zero =>
    simp only [tokensFrom, List.length_nil, repeatInstr, List.append_nil]
    exact atEnd (by omega)
  | succ k ih =>
    rcases Nat.lt_or_ge s.p s.n with hlt | hge
    · obtain ⟨-, h1, -, hle, -⟩ := nextToken_spec (S := s.input) (p := s.p) (by simpa using hlt)
      rw [State.length_input] at hle
      have hrest := ih (s := { s with tok := s.tok ++ [nextToken s.input s.p]
                                      p := s.p + (nextToken s.input s.p).span }) hn hle (by simp only; omega)
      rw [tokensFrom_of_lt (by simpa using hlt), List.length_cons, repeatInstr, exec_lzStep hn hlt]
      refine hrest.trans ?_
      simp only [List.append_assoc, List.singleton_append]
      rfl
    · rw [tokensFrom_of_ge (by simpa using hge)]
      simp only [List.length_nil, repeatInstr, List.append_nil]
      exact atEnd (by omega)

end Tokens

theorem expandTokens_tokensOf (S : List Byte) : expandTokens (tokensOf S) = S :=
  expand_tokensFrom (Nat.zero_le _) (by simp)

/-- Settles O35: the loop's tokens are `tokensOf` the input, which expand to it one by one. -/
theorem lz77TokensExpandToTheInput : Obligations.Lz77TokensExpandToTheInput := by
  intro s hn
  obtain ⟨hmax, hmin⟩ := length_tokensFrom (S := s.input) (k := s.input.length) (Nat.zero_le _) (by simp)
  rw [Nat.sub_zero, State.length_input] at hmax hmin
  refine ⟨tokensOf s.input, congrArg finish (opLz77_eq hn), ?_, expandTokens_tokensOf _, tokensFrom_wf, ?_, ?_⟩
  · have hsteps := repeat_lzStep (k := s.n) (s := { s with p := 0, tok := [] }) hn (Nat.zero_le _) (Nat.zero_add _).ge
    rw [tokensOf, State.length_input]
    exact hsteps
  · rwa [tokensOf, State.length_input]
  · rwa [tokensOf, State.length_input]

end Sys2Proof.Machine
end

section
/-! PROOFS. An input of equal bytes (R205): after the first byte, the nearest longest match is at distance 1. -/

namespace Sys2Proof.Machine

theorem input_eq_replicate {s : State} {b : Byte} (h : ∀ k < s.n, s.inByte k = b) : s.input = List.replicate s.n b := by
  refine List.ext_getElem (by simp) fun i hi _ => ?_
  rw [List.getElem_replicate, ← h i (by simpa using hi)]
  simp [State.input]

theorem matchedAt_replicate {b : Byte} {n p d : Nat} (hp : p ≤ n) :
    matchedAt (List.replicate n b) p d = min 258 (n - p) := by
  refine Nat.le_antisymm (by simpa using matchedAt_le (List.replicate n b) p d) ?_
  rw [matchedAt, le_mlen_iff (Nat.sub_le p d) (by simpa using hp), List.length_replicate]
  refine ⟨Nat.le_refl _, by omega, fun i hi => ?_⟩
  rw [List.getElem?_replicate, List.getElem?_replicate, if_pos (by omega), if_pos (by omega)]

theorem nextToken_replicate_zero {b : Byte} {n : Nat} (hn : 1 ≤ n) : nextToken (List.replicate n b) 0 = .literal b := by
  obtain ⟨h, -, h3, hbest⟩ | ⟨hs, -⟩ := lzSearch_cases (List.replicate n b) 0
  · have := hbest.attained (by omega)
    omega
  · simp only [nextToken, hs]
    rw [List.getD_replicate (h := hn)]

theorem nextToken_replicate {b : Byte} {n p : Nat} (h1 : 1 ≤ p) (hp : p < n) :
    nextToken (List.replicate n b) p =
      if 3 ≤ n - p then .backRef (min 258 (n - p)) 1 else .literal b := by
  have hlen := fun d => matchedAt_replicate (b := b) (d := d) (Nat.le_of_lt hp)
  obtain ⟨h, hs, h3, hbest⟩ | ⟨hs, hnone⟩ := lzSearch_cases (List.replicate n b) p
  · obtain ⟨hd1, -, hattained⟩ := hbest.attained (by omega)
    rw [hlen] at hattained
    have hdist : h.dist = 1 := by
      by_contra hfar
      have := hbest.nearest (by omega) 1 (Nat.le_refl 1) (by omega)
      rw [hlen] at this
      omega
    simp only [nextToken, hs]
    rw [if_pos (by omega), hdist, hattained]
  · have := hnone 1 (Nat.le_refl 1) (by omega)
    rw [hlen] at this
    simp only [nextToken, hs]
    rw [if_neg (by omega), List.getD_replicate (h := hp)]

theorem runTokens_of_ge (b : Byte) {r : Nat} (h : 258 ≤ r) : runTokens b r = .backRef 258 1 :: runTokens b (r - 258) := by
  obtain ⟨q, rfl⟩ := Nat.exists_eq_add_of_le' h
  simp [runTokens, List.replicate_succ]

theorem runTokens_of_lt (b : Byte) {r : Nat} (h : r < 258) :
    runTokens b r = if 3 ≤ r then [.backRef r 1] else List.replicate r (.literal b) := by
  simp [runTokens, Nat.mod_eq_of_lt h, Nat.div_eq_of_lt h]

/-- The tokens of the `r` last bytes of a run (R205). -/
theorem tokensFrom_replicate {b : Byte} {n k p r : Nat} (h1 : 1 ≤ p) (hr : p + r = n) (hk : r ≤ k) :
    tokensFrom (List.replicate n b) k p = runTokens b r := by
  induction k generalizing p r with
  | zero =>
    obtain rfl : r = 0 := Nat.le_zero.mp hk
    rfl
  | succ k ih =>
    rcases Nat.eq_zero_or_pos r with rfl | hpos
    · rw [tokensFrom_of_ge (by simp; omega)]
      rfl
    · rw [tokensFrom_of_lt (by simp; omega), nextToken_replicate h1 (by omega), show n - p = r by omega]
      rcases Nat.lt_or_ge r 258 with hshort | hlong
      · rw [runTokens_of_lt b hshort, Nat.min_eq_right hshort.le]
        split
        next => rw [Token.span, ih (p := p + r) (r := 0) (by omega) hr (Nat.zero_le _)]; rfl
        next hlit =>
          rw [Token.span, ih (p := p + 1) (r := r - 1) (by omega) (by omega) (by omega),
            runTokens_of_lt b (by omega), if_neg (by omega), ← List.replicate_succ, Nat.sub_add_cancel hpos]
      · rw [if_pos (by omega), Nat.min_eq_left hlong, Token.span,
          ih (p := p + 258) (r := r - 258) (by omega) (by omega) (by omega), ← runTokens_of_ge b hlong]

/-- Settles O36: the first token is a literal, and the rest are those of a run from place 1 on. -/
theorem runsOfOneByte : Obligations.RunsOfOneByte := by
  intro s b h1 hn hbytes
  obtain ⟨m, hm⟩ := Nat.exists_eq_add_of_le' h1
  have htokens : tokensOf s.input = .literal b :: runTokens b (s.n - 1) := by
    rw [tokensOf, input_eq_replicate hbytes, List.length_replicate, hm, tokensFrom_of_lt (by simp),
      nextToken_replicate_zero (by omega), Token.span,
      tokensFrom_replicate (r := m) (by omega) (by omega) (Nat.le_refl m), Nat.add_sub_cancel]
  rw [← htokens]
  exact congrArg finish (opLz77_eq hn)

end Sys2Proof.Machine
end

section
/-! PROOFS. Sums over the used lengths of a vector: the Kraft sum (R131, R134) and the number of codes. -/

namespace Sys2Proof.Machine

/-- The sum of `w` over the non-zero entries. -/
def usedSum (w : Nat → Nat) (L : List Nat) : Nat := (L.map fun l => if l = 0 then 0 else w l).sum

theorem usedSum_cons (w : Nat → Nat) (l : Nat) (L : List Nat) :
    usedSum w (l :: L) = (if l = 0 then 0 else w l) + usedSum w L := rfl

theorem usedSum_append (w : Nat → Nat) (L L' : List Nat) : usedSum w (L ++ L') = usedSum w L + usedSum w L' := by
  simp [usedSum]

theorem sum_filter_ne_zero (w : Nat → Nat) (L : List Nat) :
    ((L.filter fun l => decide (l ≠ 0)).map w).sum = usedSum w L := by
  induction L with
  | nil => rfl
  | cons l L ih => by_cases h : l = 0 <;> simp [usedSum_cons, h] <;> simpa using ih

theorem kraft_eq_usedSum (e : Nat) (L : List Nat) : kraft e L = usedSum (fun l => 2 ^ (e - l)) L :=
  sum_filter_ne_zero _ L

theorem usedCount_eq_usedSum (L : List Nat) : usedCount L = usedSum (fun _ => 1) L := by
  rw [← sum_filter_ne_zero, usedCount]
  simp

theorem usedSum_le_usedSum {w w' : Nat → Nat} {L : List Nat} (h : ∀ l ∈ L, l ≠ 0 → w l ≤ w' l) :
    usedSum w L ≤ usedSum w' L := by
  refine List.sum_le_sum fun l hl => ?_
  split
  · exact Nat.le_refl 0
  · exact h l hl ‹_›

theorem usedSum_congr {w w' : Nat → Nat} {L : List Nat} (h : ∀ l ∈ L, l ≠ 0 → w l = w' l) :
    usedSum w L = usedSum w' L :=
  Nat.le_antisymm (usedSum_le_usedSum fun l hl h0 => (h l hl h0).le) (usedSum_le_usedSum fun l hl h0 => (h l hl h0).ge)

theorem usedSum_mul (w : Nat → Nat) (c : Nat) (L : List Nat) : usedSum (fun l => w l * c) L = usedSum w L * c := by
  induction L with
  | nil => simp [usedSum]
  | cons l L ih => rw [usedSum_cons, usedSum_cons, ih, Nat.add_mul]; split <;> simp

theorem le_usedSum {w : Nat → Nat} {l : Nat} {L : List Nat} (hl : l ∈ L) (h0 : l ≠ 0) : w l ≤ usedSum w L := by
  have hmem := List.mem_map_of_mem (f := fun l => if l = 0 then 0 else w l) hl
  rw [if_neg h0] at hmem
  exact List.single_le_sum (fun _ _ => Nat.zero_le _) _ hmem

theorem usedCount_le_length (L : List Nat) : usedCount L ≤ L.length := List.length_filter_le _ L

/-- The number of codes depends only on which symbols have one. -/
theorem usedCount_congr {L L' : List Nat} (hlen : L.length = L'.length) (h : ∀ x, L.getD x 0 = 0 ↔ L'.getD x 0 = 0) :
    usedCount L = usedCount L' := by
  rw [usedCount_eq_usedSum, usedCount_eq_usedSum, usedSum, usedSum]
  congr 1
  refine List.ext_getElem (by simpa using hlen) fun i hi hi' => ?_
  have hiff : L[i]'(by simpa using hi) = 0 ↔ L'[i]'(by simpa using hi') = 0 := by
    rw [← List.getD_eq_getElem _ 0, ← List.getD_eq_getElem _ 0]
    exact h i
  simp only [List.getElem_map, hiff]

/-- A larger scale multiplies the Kraft sum. -/
theorem kraft_add {e : Nat} {L : List Nat} (h : ∀ l ∈ L, l ≤ e) (d : Nat) : kraft (e + d) L = kraft e L * 2 ^ d := by
  rw [kraft_eq_usedSum, kraft_eq_usedSum, ← usedSum_mul]
  refine usedSum_congr fun l hl _ => ?_
  rw [← Nat.pow_add]
  congr 1
  have := h l hl
  omega

theorem kraftOne_of_scale {M : Nat} {L : List Nat} (hM : ∀ l ∈ L, l ≤ M) (h : kraft M L = 2 ^ M) : KraftOne L := by
  intro e he
  rcases Nat.le_total M e with hle | hle
  · obtain ⟨d, rfl⟩ := Nat.exists_eq_add_of_le hle
    rw [kraft_add hM, h, Nat.pow_add]
  · obtain ⟨d, rfl⟩ := Nat.exists_eq_add_of_le hle
    rw [kraft_add he, Nat.pow_add] at h
    exact Nat.eq_of_mul_eq_mul_right (Nat.two_pow_pos d) h

theorem KraftOne.atMostOne {L : List Nat} (h : KraftOne L) : KraftAtMostOne L := fun e he => (h e he).le

theorem kraftAtMostOne_of_single {L : List Nat} (h : usedCount L ≤ 1) : KraftAtMostOne L := by
  intro e _
  calc kraft e L
    _ = usedSum (fun l => 2 ^ (e - l)) L := kraft_eq_usedSum e L
    _ ≤ usedSum (fun _ => 1 * 2 ^ e) L :=
      usedSum_le_usedSum fun l _ _ => by rw [Nat.one_mul]; exact Nat.pow_le_pow_right (by decide) (Nat.sub_le e l)
    _ = usedCount L * 2 ^ e := by rw [usedSum_mul, usedCount_eq_usedSum]
    _ ≤ 2 ^ e := by simpa using Nat.mul_le_mul_right (2 ^ e) h

/-- The part of the Kraft sum over the lengths up to `l`. -/
def kraftUpTo (e l : Nat) (L : List Nat) : Nat := usedSum (fun x => if x ≤ l then 2 ^ (e - x) else 0) L

theorem kraftUpTo_le (e l : Nat) (L : List Nat) : kraftUpTo e l L ≤ kraft e L := by
  rw [kraft_eq_usedSum]
  refine usedSum_le_usedSum fun x _ _ => ?_
  split
  · exact Nat.le_refl _
  · exact Nat.zero_le _

theorem kraftUpTo_zero (e : Nat) (L : List Nat) : kraftUpTo e 0 L = 0 := by
  have hnone : kraftUpTo e 0 L = usedSum (fun _ => 0 * 0) L :=
    usedSum_congr fun x _ hx => if_neg (Nat.not_le.mpr (Nat.pos_of_ne_zero hx))
  rw [hnone, usedSum_mul, Nat.mul_zero]

theorem kraftUpTo_succ (e l : Nat) (L : List Nat) :
    kraftUpTo e (l + 1) L = kraftUpTo e l L + L.count (l + 1) * 2 ^ (e - (l + 1)) := by
  induction L with
  | nil => simp [kraftUpTo, usedSum]
  | cons x L ih =>
    simp only [kraftUpTo] at ih ⊢
    rw [usedSum_cons, usedSum_cons, ih, List.count_cons]
    by_cases hx : x = l + 1
    · subst hx
      simp [Nat.add_mul]
      omega
    · have hne : (x == l + 1) = false := by simpa using hx
      simp only [hne, show (x ≤ l + 1) = (x ≤ l) by simp only [eq_iff_iff]; omega]
      simp [Nat.add_assoc]

end Sys2Proof.Machine
end

section
/-! PROOFS. Canonical codes (R133, R134): what each symbol gets, and that no code begins another. -/

namespace Sys2Proof.Machine

/-- Each symbol with a length gets its length's next code plus the number of smaller symbols of that length. -/
theorem assignCodes_spec {ls cs next : List Nat} (hlen : cs.length = ls.length) (hnext : ∀ l ∈ ls, l < next.length) :
    (assignCodes ls cs next).length = ls.length ∧ ∀ x, ls.getD x 0 ≠ 0 →
      (assignCodes ls cs next).getD x 0 = next.getD (ls.getD x 0) 0 + (ls.take x).count (ls.getD x 0) := by
  induction ls generalizing cs next with
  | nil => simp [assignCodes]
  | cons l ls ih =>
    cases cs with
    | nil => simp at hlen
    | cons c cs =>
      have hlen : cs.length = ls.length := Nat.succ.inj hlen
      have hl := hnext l List.mem_cons_self
      have hls : ∀ k ∈ ls, k < next.length := fun k hk => hnext k (List.mem_cons_of_mem _ hk)
      rw [assignCodes]
      split
      next h0 =>
        obtain ⟨hlength, hcodes⟩ := ih hlen hls
        refine ⟨by rw [List.length_cons, List.length_cons, hlength], fun x hx => ?_⟩
        cases x with
        | zero => exact absurd h0 hx
        | succ x =>
          rw [List.getD_cons_succ] at hx ⊢
          rw [List.getD_cons_succ, hcodes x hx, List.take_succ_cons, List.count_cons_of_ne (h0.trans_ne hx.symm)]
      next h0 =>
        obtain ⟨hlength, hcodes⟩ := ih (next := next.set l (next.getD l 0 + 1)) hlen (by simpa using hls)
        refine ⟨by rw [List.length_cons, List.length_cons, hlength], fun x hx => ?_⟩
        cases x with
        | zero => simp
        | succ x =>
          rw [List.getD_cons_succ] at hx ⊢
          rw [List.getD_cons_succ, hcodes x hx, List.take_succ_cons, List.count_cons]
          by_cases hk : l = ls.getD x 0
          · rw [← hk, List.getD_eq_getElem?_getD, List.getElem?_set_self hl]
            simp
            omega
          · rw [List.getD_eq_getElem?_getD, List.getElem?_set_ne hk, ← List.getD_eq_getElem?_getD,
              if_neg (by simpa only [beq_iff_eq] using hk), Nat.add_zero]

theorem canonCodes_spec {L old : List Nat} {M : Nat} (hcap : ∀ l ∈ L, l ≤ M) :
    (canonCodes L M old).length = L.length ∧ ∀ x, L.getD x 0 ≠ 0 →
      (canonCodes L M old).getD x 0 = nextCode L (L.getD x 0) + (L.take x).count (L.getD x 0) := by
  have hnext : ∀ l ∈ L, l < ((List.range (M + 1)).map (nextCode L)).length := fun l hl => by
    simpa using Nat.lt_succ_of_le (hcap l hl)
  obtain ⟨hlen, hcodes⟩ := assignCodes_spec (length_fit L.length old) hnext
  refine ⟨hlen, fun x hx => ?_⟩
  have hl : L.getD x 0 < M + 1 := Nat.lt_succ_of_le (getD_le hcap x)
  have hget : ((List.range (M + 1)).map (nextCode L)).getD (L.getD x 0) 0 = nextCode L (L.getD x 0) := by
    rw [List.getD_eq_getElem _ _ (by simpa using hl), List.getElem_map, List.getElem_range]
  rw [canonCodes, hcodes x hx, hget]

theorem exec_huffCanon (a : Alphabet) (s : State) :
    exec (.huffCanon a) s = .next (s.setCodes a (canonCodes (s.lens a) a.maxLen (s.codes a))) := rfl

/-- Settles O42: any function with the recurrence of R133 is `nextCode` from 1 on. -/
theorem canonicalCodes : Obligations.CanonicalCodes := by
  intro a s hcap
  obtain ⟨hlen, hcodes⟩ := canonCodes_spec (old := s.codes a) hcap
  refine ⟨_, exec_huffCanon a s, hlen, fun next h1 hsucc x _ hx => ?_⟩
  have hnext (l : Nat) : next (l + 1) = nextCode (s.lens a) (l + 1) := by
    induction l with
    | zero => exact h1
    | succ l ih => rw [hsucc (l + 1) (Nat.succ_pos l), ih, nextCode]
  obtain ⟨l, hl⟩ := Nat.exists_eq_succ_of_ne_zero hx
  rw [hcodes x hx, hl, Nat.succ_eq_add_one, hnext]

/-- The codes up to length `l` take their share of the Kraft sum. -/
theorem nextCode_kraft (L : List Nat) {e l : Nat} (hl : l + 1 ≤ e) :
    (nextCode L (l + 1) + L.count (l + 1)) * 2 ^ (e - (l + 1)) = kraftUpTo e (l + 1) L := by
  induction l with
  | zero => simp [nextCode, kraftUpTo_succ, kraftUpTo_zero]
  | succ l ih =>
    have hpow : 2 ^ (e - (l + 1)) = 2 * 2 ^ (e - (l + 1 + 1)) := by
      rw [← Nat.pow_succ']
      congr 1
      omega
    rw [kraftUpTo_succ, ← ih (by omega), nextCode, hpow, Nat.add_mul, Nat.mul_assoc]

/-- The codes of length `l` end at or below 2 to the `l`. -/
theorem nextCode_add_count_le {L : List Nat} {M l : Nat} (hK : KraftAtMostOne L) (hcap : ∀ x ∈ L, x ≤ M)
    (h1 : 1 ≤ l) (hl : l ≤ M) : nextCode L l + L.count l ≤ 2 ^ l := by
  obtain ⟨k, rfl⟩ := Nat.exists_eq_add_of_le' h1
  have hsum : (nextCode L (k + 1) + L.count (k + 1)) * 2 ^ (M - (k + 1)) ≤ 2 ^ (k + 1) * 2 ^ (M - (k + 1)) := by
    rw [nextCode_kraft L hl, ← Nat.pow_add, Nat.add_sub_cancel' hl]
    exact Nat.le_trans (kraftUpTo_le _ _ _) (hK M hcap)
  exact Nat.le_of_mul_le_mul_right hsum (Nat.two_pow_pos _)

/-- The first code of a longer length stands above every code of length `l`. -/
theorem nextCode_add (L : List Nat) {l : Nat} (h1 : 1 ≤ l) (d : Nat) :
    (nextCode L l + L.count l) * 2 ^ (d + 1) ≤ nextCode L (l + (d + 1)) := by
  obtain ⟨k, rfl⟩ := Nat.exists_eq_add_of_le' h1
  induction d with
  | zero => rw [Nat.zero_add, Nat.pow_one]; exact Nat.le_refl _
  | succ d ih =>
    calc (nextCode L (k + 1) + L.count (k + 1)) * 2 ^ (d + 1 + 1)
      _ = (nextCode L (k + 1) + L.count (k + 1)) * 2 ^ (d + 1) * 2 := by rw [Nat.pow_succ 2 (d + 1), Nat.mul_assoc]
      _ ≤ nextCode L (k + 1 + (d + 1)) * 2 := Nat.mul_le_mul_right 2 ih
      _ ≤ nextCode L (k + 1 + (d + 1 + 1)) := by
        rw [show k + 1 + (d + 1 + 1) = k + d + 1 + 2 by omega, show k + 1 + (d + 1) = k + d + 1 + 1 by omega, nextCode]
        exact Nat.mul_le_mul_right 2 (Nat.le_add_right _ _)

theorem count_take_lt_count {L : List Nat} {x : Nat} (hx : L.getD x 0 ≠ 0) :
    (L.take x).count (L.getD x 0) < L.count (L.getD x 0) := by
  have hlt := lt_length_of_getD_ne_zero hx
  have hsplit : L.count (L.getD x 0) = (L.take x).count (L.getD x 0) + (L.drop x).count (L.getD x 0) := by
    rw [← List.count_append, List.take_append_drop]
  rw [hsplit, List.drop_eq_getElem_cons hlt, ← List.getD_eq_getElem _ 0 hlt, List.count_cons_self]
  omega

theorem count_take_lt_count_take {L : List Nat} {x y : Nat} (hx : L.getD x 0 ≠ 0) (hxy : x < y) :
    (L.take x).count (L.getD x 0) < (L.take y).count (L.getD x 0) := by
  have htake : (L.take y).getD x 0 = L.getD x 0 := by
    rw [List.getD_eq_getElem?_getD, List.getElem?_take_of_lt hxy, ← List.getD_eq_getElem?_getD]
  have := count_take_lt_count (L := L.take y) (x := x) (htake ▸ hx)
  rwa [htake, List.take_take, Nat.min_eq_left hxy.le] at this

theorem msbBits_take {v n m : Nat} (hn : n ≤ m) : (msbBits v m).take n = msbBits (v / 2 ^ (m - n)) n := by
  refine List.ext_getElem? fun i => ?_
  rcases Nat.lt_or_ge i n with hi | hi
  · rw [List.getElem?_take_of_lt hi, getElem?_msbBits v (by omega), getElem?_msbBits _ hi, Nat.testBit_div_two_pow]
    congr 2
    omega
  · rw [List.getElem?_eq_none (by simp; omega), List.getElem?_eq_none (by simpa using hi)]

theorem msbBits_inj {v w n : Nat} (hv : v < 2 ^ n) (hw : w < 2 ^ n) (h : msbBits v n = msbBits w n) : v = w := by
  refine Nat.eq_of_testBit_eq fun i => ?_
  rcases Nat.lt_or_ge i n with hi | hi
  · have hbit := congrArg (·[n - 1 - i]?) h
    simp only [getElem?_msbBits _ (show n - 1 - i < n by omega), Option.some.injEq] at hbit
    rwa [show n - 1 - (n - 1 - i) = i by omega] at hbit
  · have hpow := Nat.pow_le_pow_right (show 0 < 2 by decide) hi
    rw [Nat.testBit_lt_two_pow (Nat.lt_of_lt_of_le hv hpow), Nat.testBit_lt_two_pow (Nat.lt_of_lt_of_le hw hpow)]

/-- A code that begins another is its leading part, as a number. -/
theorem div_of_msbBits_prefix {v w n m : Nat} (hv : v < 2 ^ n) (hw : w < 2 ^ m) (h : msbBits v n <+: msbBits w m) :
    n ≤ m ∧ w / 2 ^ (m - n) = v := by
  have hn : n ≤ m := by simpa using h.length_le
  refine ⟨hn, msbBits_inj ?_ hv ?_⟩
  · rw [Nat.div_lt_iff_lt_mul (Nat.two_pow_pos _), ← Nat.pow_add, Nat.add_sub_cancel' hn]
    exact hw
  · rw [← msbBits_take hn]
    simpa using (List.prefix_iff_eq_take.mp h).symm

/-- Canonical codes of lengths that leave room fit their lengths (R134). -/
theorem canonCodes_lt {L old : List Nat} {M : Nat} (hK : KraftAtMostOne L) (hcap : ∀ l ∈ L, l ≤ M) {x : Nat}
    (hx : L.getD x 0 ≠ 0) : (canonCodes L M old).getD x 0 < 2 ^ L.getD x 0 := by
  have hcount := count_take_lt_count hx
  have hroom := nextCode_add_count_le hK hcap (Nat.pos_of_ne_zero hx) (getD_le hcap x)
  rw [(canonCodes_spec hcap).2 x hx]
  omega

theorem canonCodes_prefixFree {L old : List Nat} {M : Nat} (hK : KraftAtMostOne L) (hcap : ∀ l ∈ L, l ≤ M) :
    PrefixFree L (canonCodes L M old) := by
  intro x y hne hx hy hprefix
  obtain ⟨hle, hdiv⟩ := div_of_msbBits_prefix (canonCodes_lt hK hcap hx) (canonCodes_lt hK hcap hy) hprefix
  rw [(canonCodes_spec hcap).2 x hx, (canonCodes_spec hcap).2 y hy] at hdiv
  rcases Nat.eq_or_lt_of_le hle with heq | hlt
  · rw [heq, Nat.sub_self, Nat.pow_zero, Nat.div_one] at hdiv
    rcases Nat.lt_or_gt_of_ne hne with hxy | hxy
    · have := count_take_lt_count_take hx hxy
      rw [heq] at this
      omega
    · have := count_take_lt_count_take hy hxy
      omega
  · obtain ⟨d, hd⟩ := Nat.exists_eq_add_of_lt hlt
    have habove := nextCode_add L (Nat.pos_of_ne_zero hx) d
    have hcount := count_take_lt_count hx
    rw [hd, show L.getD x 0 + d + 1 - L.getD x 0 = d + 1 by omega] at hdiv
    have hquot : nextCode L (L.getD x 0) + L.count (L.getD x 0) ≤
        (nextCode L (L.getD x 0 + d + 1) + (L.take y).count (L.getD x 0 + d + 1)) / 2 ^ (d + 1) := by
      rw [Nat.le_div_iff_mul_le (Nat.two_pow_pos _)]
      exact Nat.le_trans habove (Nat.le_add_right _ _)
    omega

/-- Settles O43: a code that begins another is its leading part, which the canonical numbering excludes. -/
theorem canonicalCodesArePrefixFree : Obligations.CanonicalCodesArePrefixFree :=
  fun _ _ _ hK hcap => ⟨canonCodes_prefixFree hK hcap, fun _ hx => canonCodes_lt hK hcap hx⟩

end Sys2Proof.Machine
end

section
/-! PROOFS. Writing lengths one symbol at a time (R129, R132): each write of a symbol that had none adds its summand. -/

namespace Sys2Proof.Machine

/-- Writes the lengths of (symbol, length) pairs in order. -/
def writeLengths (ps : List (Nat × Nat)) (L : List Nat) : List Nat := ps.foldl (fun L x => L.set x.1 x.2) L

theorem writeLengths_cons (p : Nat × Nat) (ps : List (Nat × Nat)) (L : List Nat) :
    writeLengths (p :: ps) L = writeLengths ps (L.set p.1 p.2) := rfl

theorem writeLengths_append (ps qs : List (Nat × Nat)) (L : List Nat) :
    writeLengths (ps ++ qs) L = writeLengths qs (writeLengths ps L) := List.foldl_append

@[simp] theorem length_writeLengths (ps : List (Nat × Nat)) (L : List Nat) : (writeLengths ps L).length = L.length :=
  length_foldl_set

theorem getD_set_of_ne {L : List Nat} {x y : Nat} (v : Nat) (h : y ≠ x) : (L.set y v).getD x 0 = L.getD x 0 := by
  rw [List.getD_eq_getElem?_getD, List.getElem?_set_ne h, ← List.getD_eq_getElem?_getD]

theorem getD_set_self {L : List Nat} {x : Nat} (v : Nat) (h : x < L.length) : (L.set x v).getD x 0 = v := by
  rw [List.getD_eq_getElem?_getD, List.getElem?_set_self h, Option.getD_some]

theorem getD_writeLengths_of_notMem {ps : List (Nat × Nat)} {L : List Nat} {x : Nat} (h : x ∉ ps.map Prod.fst) :
    (writeLengths ps L).getD x 0 = L.getD x 0 := by
  induction ps generalizing L with
  | nil => rfl
  | cons p ps ih =>
    rw [List.map_cons, List.mem_cons, not_or] at h
    rw [writeLengths_cons, ih h.2, getD_set_of_ne p.2 (Ne.symm h.1)]

theorem usedSum_set (w : Nat → Nat) {L : List Nat} {x v : Nat} (hx : x < L.length) (hzero : L.getD x 0 = 0)
    (hv : v ≠ 0) : usedSum w (L.set x v) = usedSum w L + w v := by
  induction L generalizing x with
  | nil => simp at hx
  | cons l L ih =>
    cases x with
    | zero =>
      have hl : l = 0 := hzero
      rw [List.set_cons_zero, usedSum_cons, usedSum_cons, if_neg hv, if_pos hl]
      omega
    | succ x =>
      rw [List.set_cons_succ, usedSum_cons, usedSum_cons, ih (Nat.lt_of_succ_lt_succ hx) hzero, Nat.add_assoc]

/-- Lengths written for distinct symbols that had none add up. -/
theorem usedSum_writeLengths (w : Nat → Nat) {ps : List (Nat × Nat)} {L : List Nat} (hnodup : (ps.map Prod.fst).Nodup)
    (hps : ∀ p ∈ ps, p.1 < L.length ∧ L.getD p.1 0 = 0 ∧ p.2 ≠ 0) :
    usedSum w (writeLengths ps L) = usedSum w L + (ps.map fun p => w p.2).sum := by
  induction ps generalizing L with
  | nil => rfl
  | cons p ps ih =>
    obtain ⟨hlt, hzero, hne⟩ := hps p List.mem_cons_self
    rw [List.map_cons, List.nodup_cons] at hnodup
    rw [writeLengths_cons, ih hnodup.2 fun q hq => ?_, usedSum_set w hlt hzero hne, List.map_cons, List.sum_cons,
      Nat.add_assoc]
    obtain ⟨hq1, hq2, hq3⟩ := hps q (List.mem_cons_of_mem _ hq)
    have hpq : p.1 ≠ q.1 := fun h => hnodup.1 (h ▸ List.mem_map_of_mem hq)
    exact ⟨by simpa using hq1, by rw [getD_set_of_ne _ hpq, hq2], hq3⟩

theorem usedSum_replicate_zero (w : Nat → Nat) (n : Nat) : usedSum w (List.replicate n 0) = 0 := by
  simp [usedSum]

theorem getD_replicate_zero (n x : Nat) : (List.replicate n 0).getD x 0 = 0 := by
  simp only [List.getD_eq_getElem?_getD, List.getElem?_replicate]
  split <;> rfl

/-- Lengths written for distinct symbols into an empty vector: their sum is the vector's, and their symbols are the
used ones. -/
theorem usedSum_writeLengths_replicate (w : Nat → Nat) {ps : List (Nat × Nat)} {n : Nat}
    (hnodup : (ps.map Prod.fst).Nodup) (hps : ∀ p ∈ ps, p.1 < n ∧ p.2 ≠ 0) :
    usedSum w (writeLengths ps (List.replicate n 0)) = (ps.map fun p => w p.2).sum := by
  rw [usedSum_writeLengths w hnodup fun p hp => ?_, usedSum_replicate_zero, Nat.zero_add]
  obtain ⟨hlt, hne⟩ := hps p hp
  exact ⟨by simpa using hlt, getD_replicate_zero n p.1, hne⟩

theorem writeLengths_eq_zero_iff {ps : List (Nat × Nat)} {n x : Nat} (hps : ∀ p ∈ ps, p.1 < n ∧ p.2 ≠ 0) :
    (writeLengths ps (List.replicate n 0)).getD x 0 = 0 ↔ x ∉ ps.map Prod.fst := by
  refine ⟨fun h hx => ?_, fun hx => by rw [getD_writeLengths_of_notMem hx, getD_replicate_zero]⟩
  obtain ⟨p, hp, rfl⟩ := List.mem_map.mp hx
  have hlt : p.1 < (List.replicate n 0).length := by simpa using (hps p hp).1
  exact foldl_set_ne_zero (fun q hq => (hps q hq).2) hlt (.inr hx) h

end Sys2Proof.Machine
end

section
/-! PROOFS. The leaves (R126, R127) and the merging of the two lightest (R128). -/

namespace Sys2Proof.Machine

theorem length_usedEntries (F : List Nat) : (usedEntries F).length = usedCount F := by
  rw [usedEntries, usedCount, ← List.countP_eq_length_filter, ← List.countP_eq_length_filter]
  conv_rhs => rw [← List.zipIdx_map_fst 0 F, List.countP_map]
  exact List.countP_congr fun e _ => by simp [Nat.pos_iff_ne_zero]

theorem mem_zipIdx_iff_getD {F : List Nat} {w x : Nat} : (w, x) ∈ F.zipIdx ↔ x < F.length ∧ w = F.getD x 0 := by
  rw [List.mem_zipIdx_iff_getElem?, List.getElem?_eq_some_iff]
  constructor
  · rintro ⟨hlt, hget⟩
    exact ⟨hlt, by rw [List.getD_eq_getElem _ _ hlt]; exact hget.symm⟩
  · rintro ⟨hlt, rfl⟩
    exact ⟨hlt, (List.getD_eq_getElem _ _ hlt).symm⟩

theorem dummySymbol_eq_some {F : List Nat} {x : Nat} (hx : x < F.length) :
    dummySymbol F = some x ↔ F.getD x 0 = 0 ∧ ∀ y < x, F.getD y 0 ≠ 0 := by
  have hget {y : Nat} (hy : y < F.length) : F[y] = F.getD y 0 := (List.getD_eq_getElem _ _ hy).symm
  rw [dummySymbol, List.findIdx?_eq_some_iff_getElem]
  constructor
  · rintro ⟨hlt, h0, hbefore⟩
    refine ⟨by rw [← hget hlt]; simpa using h0, fun y hy => ?_⟩
    rw [← hget (Nat.lt_trans hy hlt)]
    simpa using hbefore y hy
  · rintro ⟨h0, hbefore⟩
    refine ⟨hx, by rw [hget hx, h0]; rfl, fun y hy => ?_⟩
    rw [hget (Nat.lt_trans hy hx)]
    simpa using hbefore y hy

/-- Which pairs get a leaf (R126, R127). -/
theorem mem_leafEntries {F : List Nat} {w x : Nat} : (w, x) ∈ leafEntries F ↔
    x < F.length ∧ w = F.getD x 0 ∧ (0 < w ∨ usedCount F < 2 ∧ ∀ y < x, F.getD y 0 ≠ 0) := by
  unfold leafEntries
  rw [length_usedEntries]
  split
  next hfew =>
    simp only [List.mem_filter, mem_zipIdx_iff_getD, Bool.or_eq_true, decide_eq_true_eq, beq_iff_eq, hfew, true_and,
      and_assoc]
    refine and_congr_right fun hx => and_congr_right fun hw => ?_
    rw [dummySymbol_eq_some hx, ← hw]
    constructor
    · rintro (hpos | ⟨-, hbefore⟩)
      · exact .inl hpos
      · exact .inr hbefore
    · rintro (hpos | hbefore)
      · exact .inl hpos
      · rcases Nat.eq_zero_or_pos w with h0 | hpos
        · exact .inr ⟨h0, hbefore⟩
        · exact .inl hpos
  next hmany =>
    simp only [usedEntries, List.mem_filter, mem_zipIdx_iff_getD, decide_eq_true_eq, hmany, false_and, or_false,
      and_assoc]

theorem leafEntries_sublist (F : List Nat) : (leafEntries F).Sublist F.zipIdx := by
  unfold leafEntries usedEntries
  split <;> exact List.filter_sublist

theorem leafEntries_sorted (F : List Nat) : ((leafEntries F).map Prod.snd).Pairwise (· < ·) := by
  have hall : (F.zipIdx.map Prod.snd).Pairwise (· < ·) := by
    rw [List.zipIdx_map_snd]
    exact List.pairwise_lt_range'
  exact hall.sublist ((leafEntries_sublist F).map Prod.snd)

/-- Settles O38: the leaves are those of `leafEntries`, in its order. -/
theorem leavesAreTheUsedSymbolsAndTheDummy : Obligations.LeavesAreTheUsedSymbolsAndTheDummy := by
  intro a s hsize
  refine ⟨leafEntries (s.freq a), ?_, leafEntries_sorted _, fun w x => by rw [mem_leafEntries, hsize]⟩
  have hlen : (leaves (s.freq a)).length = (leafEntries (s.freq a)).length := List.length_map _
  rw [← hlen]
  rfl

theorem lighter_iff {nodes : List Node} {i j : Nat} : lighter nodes i j = true ↔
    weightAt nodes i < weightAt nodes j ∨ (weightAt nodes i = weightAt nodes j ∧ i < j) := by
  simp [lighter]

/-- The pick is the lightest (R128). -/
theorem pickMin_isLightest {nodes : List Node} {live : List Nat} {i : Nat} (h : pickMin nodes live = some i) :
    IsLightest nodes live i := by
  refine ⟨pickMin_mem h, ?_⟩
  induction live generalizing i with
  | nil => cases h
  | cons j js ih =>
    rw [pickMin] at h
    split at h
    next hnone =>
      obtain rfl := Option.some.inj h
      have hjs : js = [] := by
        by_contra hne
        obtain ⟨k, hk⟩ := pickMin_isSome (nodes := nodes) hne
        rw [hk] at hnone
        cases hnone
      subst hjs
      intro k hk
      obtain rfl := List.mem_singleton.mp hk
      exact .inr ⟨rfl, Nat.le_refl _⟩
    next m hm =>
      have hrest := ih hm
      split at h
      next hlight =>
        obtain rfl := Option.some.inj h
        have hmj := lighter_iff.mp hlight
        refine List.forall_mem_cons.mpr ⟨?_, hrest⟩
        omega
      next hnot =>
        obtain rfl := Option.some.inj h
        have hjm := mt lighter_iff.mpr hnot
        refine List.forall_mem_cons.mpr ⟨.inr ⟨rfl, Nat.le_refl _⟩, fun k hk => ?_⟩
        have := hrest k hk
        omega

theorem isLightest_unique {nodes : List Node} {live : List Nat} {i j : Nat} (hi : IsLightest nodes live i)
    (hj : IsLightest nodes live j) : i = j := by
  have hij := hi.2 j hj.1
  have hji := hj.2 i hi.1
  omega

theorem pickMin_of_isLightest {nodes : List Node} {live : List Nat} {i : Nat} (h : IsLightest nodes live i) :
    pickMin nodes live = some i := by
  obtain ⟨j, hj⟩ := pickMin_isSome (nodes := nodes) (live := live) (List.ne_nil_of_mem h.1)
  rw [hj, isLightest_unique (pickMin_isLightest hj) h]

theorem mergeLoop_of_single {k : Nat} {nodes : List Node} {live : List Nat} (h : live.length ≤ 1) :
    mergeLoop k nodes live = (nodes, live) := by
  cases k with
  | zero => rfl
  | succ k => simp only [mergeLoop, h, if_true]

/-- With two live nodes or more the loop merges once and goes on. -/
theorem mergeLoop_of_merge {k : Nat} {nodes nodes' : List Node} {live live' : List Nat} (h : 2 ≤ live.length)
    (hstep : mergeStep nodes live = some (nodes', live')) :
    mergeLoop (k + 1) nodes live = mergeLoop k nodes' live' := by
  simp only [mergeLoop, Nat.not_le.mpr h, if_false, hstep]

theorem length_merged_live {live : List Nat} {a b : Nat} (ha : a ∈ live) (hb : b ∈ live.erase a) (n : Nat) :
    ((live.erase a).erase b ++ [n]).length + 1 = live.length := by
  have h1 := List.length_erase_of_mem ha
  have h2 := List.length_erase_of_mem hb
  have := List.length_pos_of_mem ha
  have := List.length_pos_of_mem hb
  rw [List.length_append, List.length_singleton]
  omega

/-- Merging ends with one live node, one merge for each of the others, and keeps the nodes there were (R128). -/
theorem mergeLoop_keeps {k : Nat} {nodes : List Node} {live : List Nat} (hne : live ≠ []) (hk : live.length ≤ k + 1) :
    ∃ m root, mergeLoop k nodes live = (nodes ++ m, [root]) ∧ m.length + 1 = live.length := by
  have hpos := List.length_pos_of_ne_nil hne
  induction k generalizing nodes live with
  | zero =>
    obtain ⟨root, rfl⟩ := List.length_eq_one_iff.mp (by omega : live.length = 1)
    exact ⟨[], root, by rw [mergeLoop_of_single (by simp), List.append_nil], rfl⟩
  | succ k ih =>
    rcases Nat.lt_or_ge live.length 2 with h1 | h2
    · obtain ⟨root, rfl⟩ := List.length_eq_one_iff.mp (by omega : live.length = 1)
      exact ⟨[], root, by rw [mergeLoop_of_single (by simp), List.append_nil], rfl⟩
    · obtain ⟨a, b, ha, hb, hstep⟩ := mergeStep_of_two_live nodes h2
      have hlen := length_merged_live ha hb nodes.length
      obtain ⟨m, root, hloop, hm⟩ := ih (nodes := nodes ++ [.merged (weightAt nodes a + weightAt nodes b) a b])
        (live := (live.erase a).erase b ++ [nodes.length]) (by simp) (by omega) (by simp)
      refine ⟨.merged (weightAt nodes a + weightAt nodes b) a b :: m, root, ?_, ?_⟩
      · rw [mergeLoop_of_merge h2 hstep, hloop, List.append_assoc, List.singleton_append]
      · rw [List.length_cons]
        omega

theorem exec_huffMerge (s : State) : exec .huffMerge s = .next { s with
    node := (mergeLoop s.live.length s.node s.live).1, live := (mergeLoop s.live.length s.node s.live).2 } := rfl

/-- Settles O39: the pick is the lightest, one merge is one round of the loop, and the rounds are as many as needed. -/
theorem mergeBuildsOneTreeFromTheTwoLightest : Obligations.MergeBuildsOneTreeFromTheTwoLightest := by
  intro s
  refine ⟨fun r hr => ?_, fun a b h2 ha hb => ?_, fun hne => ?_⟩
  · rw [exec_huffMerge, mergeLoop_of_single (by rw [hr]; exact Nat.le_refl 1)]
  · have hstep : mergeStep s.node s.live = some (s.node ++ [.merged (weightAt s.node a + weightAt s.node b) a b],
        (s.live.erase a).erase b ++ [s.seq]) := by
      simp only [mergeStep, pickMin_of_isLightest ha, pickMin_of_isLightest hb]
    rw [exec_huffMerge, exec_huffMerge, ← length_merged_live ha.1 hb.1 s.seq, mergeLoop_of_merge h2 hstep]
  · obtain ⟨m, root, hloop, hm⟩ := mergeLoop_keeps (k := s.live.length) (nodes := s.node) hne (Nat.le_succ _)
    exact ⟨m, root, by rw [exec_huffMerge, hloop], hm⟩

end Sys2Proof.Machine
end

section
/-! PROOFS. Extraction (R129, R130): the walk writes each leaf's depth. -/

namespace Sys2Proof.Machine

/-- What the walk writes at a symbol: the depth of a leaf below the node, or nothing if it has none there. -/
theorem walk_writes {nodes : List Node} (hchild : ∀ i w l r : Nat, nodes[i]? = some (Node.merged w l r) → l < i ∧ r < i)
    {k i d : Nat} {u : List Nat} {x : Nat} (hk : i < k) (hx : x < u.length) :
    (∃ e, LeafBelow nodes i e x ∧ (walk nodes k i d u).getD x 0 = d + e) ∨
      ((∀ e, ¬ LeafBelow nodes i e x) ∧ (walk nodes k i d u).getD x 0 = u.getD x 0) := by
  induction k generalizing i d u with
  | zero => omega
  | succ k ih =>
    rw [walk]
    split
    next hnone =>
      refine .inr ⟨fun e he => ?_, rfl⟩
      cases he <;> simp_all
    next w y hleaf =>
      by_cases hxy : x = y
      · subst hxy
        exact .inl ⟨0, .leaf i w x hleaf, getD_set_self d hx⟩
      · refine .inr ⟨fun e he => ?_, getD_set_of_ne d (Ne.symm hxy)⟩
        cases he <;> simp_all
    next w l r hmerged =>
      obtain ⟨hl, hr⟩ := hchild i w l r hmerged
      have hleft := ih (i := l) (d := d + 1) (u := u) (by omega) hx
      have hright := ih (i := r) (d := d + 1) (u := walk nodes k l (d + 1) u) (by omega) (by rwa [length_walk])
      obtain ⟨e, he, hval⟩ | ⟨hnone, hval⟩ := hright
      · exact .inl ⟨e + 1, .right i w l r e x hmerged he, by rw [hval]; omega⟩
      · rw [hval]
        obtain ⟨e, he, hval⟩ | ⟨hnone', hval⟩ := hleft
        · exact .inl ⟨e + 1, .left i w l r e x hmerged he, by rw [hval]; omega⟩
        · refine .inr ⟨fun e he => ?_, hval⟩
          cases he with
          | leaf _ _ _ h => rw [hmerged] at h; cases h
          | left _ _ _ _ e _ h hbelow =>
            rw [hmerged] at h
            obtain ⟨-, rfl, rfl⟩ := Node.merged.inj (Option.some.inj h)
            exact hnone' e hbelow
          | right _ _ _ _ e _ h hbelow =>
            rw [hmerged] at h
            obtain ⟨-, rfl, rfl⟩ := Node.merged.inj (Option.some.inj h)
            exact hnone e hbelow

theorem extract_of_leaf {nodes : List Node} {root size w x : Nat} (h : nodes[root]? = some (.leaf w x)) :
    extract nodes root size = (List.replicate size 0).set x 1 := by
  simp only [extract, h]

theorem extract_of_merged {nodes : List Node} {root size w l r : Nat} (h : nodes[root]? = some (.merged w l r)) :
    extract nodes root size = walk nodes nodes.length root 0 (List.replicate size 0) := by
  simp only [extract, h]

theorem opHuffExtract_of_root {a : Alphabet} {s : State} {root : Nat} (h : s.live = [root]) :
    opHuffExtract a s = .ok { s with u := extract s.node root a.size } := by
  simp only [opHuffExtract, h]

/-- Settles O40: below a merged root the walk writes the one depth of each symbol, by `walk_writes`. -/
theorem extractGivesTheDepths : Obligations.ExtractGivesTheDepths := by
  intro a s root hlive hroot hchild hunique
  refine ⟨_, congrArg finish (opHuffExtract_of_root hlive), length_extract _ _ _, fun w x h => extract_of_leaf h,
    fun w l r h x hx => ?_⟩
  rw [extract_of_merged h]
  obtain ⟨e, he, hval⟩ | ⟨hnone, hval⟩ := walk_writes hchild (d := 0) (u := List.replicate a.size 0) hroot
    (by simpa using hx)
  · refine ⟨fun d hd => ?_, fun hnone => absurd he (hnone e)⟩
    rw [hval, Nat.zero_add, hunique x d e hd he]
  · exact ⟨fun d hd => absurd hd (hnone d), fun _ => by rw [hval, getD_replicate_zero]⟩

end Sys2Proof.Machine
end

section
/-! PROOFS. The depths of the builder's tree (R128 to R130) are the lengths of a complete code: each leaf stands once
below the root, and the two subtrees of a node share its part of the Kraft sum. -/

namespace Sys2Proof.Machine

/-- The leaves below node `i`, which stands at depth `d`, in the order of the walk: symbol and depth. -/
def leavesBelow (nodes : List Node) : Nat → Nat → Nat → List (Nat × Nat)
  | 0, _, _ => []
  | k + 1, i, d =>
    match nodes[i]? with
    | none => []
    | some (.leaf _ x) => [(x, d)]
    | some (.merged _ l r) => leavesBelow nodes k l (d + 1) ++ leavesBelow nodes k r (d + 1)

theorem leavesBelow_none {nodes : List Node} {k i d : Nat} (h : nodes[i]? = none) :
    leavesBelow nodes (k + 1) i d = [] := by
  simp only [leavesBelow, h]

theorem leavesBelow_leaf {nodes : List Node} {k i d w x : Nat} (h : nodes[i]? = some (Node.leaf w x)) :
    leavesBelow nodes (k + 1) i d = [(x, d)] := by
  simp only [leavesBelow, h]

theorem leavesBelow_merged {nodes : List Node} {k i d w l r : Nat} (h : nodes[i]? = some (Node.merged w l r)) :
    leavesBelow nodes (k + 1) i d = leavesBelow nodes k l (d + 1) ++ leavesBelow nodes k r (d + 1) := by
  simp only [leavesBelow, h]

theorem walk_eq_writeLengths (nodes : List Node) (k i d : Nat) (u : List Nat) :
    walk nodes k i d u = writeLengths (leavesBelow nodes k i d) u := by
  induction k generalizing i d u with
  | zero => rfl
  | succ k ih =>
    rw [walk]
    split
    next h => rw [leavesBelow_none h]; rfl
    next h => rw [leavesBelow_leaf h]; rfl
    next h => rw [leavesBelow_merged h, ih, ih, writeLengths_append]

/-- The children of every node stand before it (R22). -/
def ChildrenBefore (nodes : List Node) : Prop :=
  ∀ i w l r : Nat, nodes[i]? = some (Node.merged w l r) → l < i ∧ r < i

/-- Fuel above the node's index is enough, and later nodes do not matter. -/
theorem leavesBelow_congr {nodes more : List Node} (hc : ChildrenBefore nodes) {k k' i d : Nat} (hi : i < nodes.length)
    (hk : i < k) (hk' : i < k') : leavesBelow (nodes ++ more) k i d = leavesBelow nodes k' i d := by
  induction k generalizing k' i d with
  | zero => omega
  | succ k ih =>
    obtain ⟨k', rfl⟩ := Nat.exists_eq_add_of_lt (Nat.zero_lt_of_lt hk')
    rw [Nat.zero_add, leavesBelow, leavesBelow, List.getElem?_append_left hi]
    split
    next => rfl
    next => rfl
    next w l r h =>
      obtain ⟨hl, hr⟩ := hc i w l r h
      rw [ih (k' := k') (by omega) (by omega) (by omega), ih (k' := k') (by omega) (by omega) (by omega)]

/-- The leaves below a node do not depend on its depth, but their depths do, and are at least its. -/
theorem leavesBelow_depth (nodes : List Node) (k i d : Nat) :
    (leavesBelow nodes k i d).map Prod.fst = (leavesBelow nodes k i 0).map Prod.fst ∧
      ∀ p ∈ leavesBelow nodes k i d, d ≤ p.2 := by
  induction k generalizing i d with
  | zero => exact ⟨rfl, nofun⟩
  | succ k ih =>
    rw [leavesBelow, leavesBelow]
    split
    next => exact ⟨rfl, nofun⟩
    next => exact ⟨rfl, by simp⟩
    next w l r h =>
      refine ⟨?_, fun p hp => ?_⟩
      · rw [List.map_append, List.map_append, (ih l (d + 1)).1, (ih r (d + 1)).1, (ih l (0 + 1)).1, (ih r (0 + 1)).1]
      · rcases List.mem_append.mp hp with hp | hp
        · exact Nat.le_of_succ_le ((ih l (d + 1)).2 p hp)
        · exact Nat.le_of_succ_le ((ih r (d + 1)).2 p hp)

/-- The symbols below a node. -/
def symbolsBelow (nodes : List Node) (i : Nat) : List Nat := (leavesBelow nodes (i + 1) i 0).map Prod.fst

theorem map_fst_leavesBelow {nodes : List Node} (hc : ChildrenBefore nodes) {k i d : Nat} (hi : i < nodes.length)
    (hk : i < k) : (leavesBelow nodes k i d).map Prod.fst = symbolsBelow nodes i := by
  have hfuel := leavesBelow_congr (more := []) hc (d := 0) hi hk (Nat.lt_succ_self i)
  rw [List.append_nil] at hfuel
  rw [(leavesBelow_depth nodes k i d).1, hfuel, symbolsBelow]

theorem symbolsBelow_append {nodes : List Node} (hc : ChildrenBefore nodes) (more : List Node) {i : Nat}
    (hi : i < nodes.length) : symbolsBelow (nodes ++ more) i = symbolsBelow nodes i := by
  rw [symbolsBelow, leavesBelow_congr hc hi (Nat.lt_succ_self i) (Nat.lt_succ_self i), symbolsBelow]

/-- Below a node at depth `d` the leaves share 2 to the minus `d`. -/
theorem kraft_leavesBelow {nodes : List Node} (hc : ChildrenBefore nodes) {e k i d : Nat} (hi : i < nodes.length)
    (hk : i < k) (he : ∀ p ∈ leavesBelow nodes k i d, p.2 ≤ e) :
    d ≤ e ∧ ((leavesBelow nodes k i d).map fun p => 2 ^ (e - p.2)).sum = 2 ^ (e - d) := by
  induction k generalizing i d with
  | zero => omega
  | succ k ih =>
    cases hnode : nodes[i]? with
    | none => exact absurd hi (Nat.not_lt.mpr (List.getElem?_eq_none_iff.mp hnode))
    | some nd =>
      cases nd with
      | leaf w x =>
        rw [leavesBelow_leaf hnode] at he ⊢
        exact ⟨he _ List.mem_cons_self, by simp⟩
      | merged w l r =>
        obtain ⟨hl, hr⟩ := hc i w l r hnode
        rw [leavesBelow_merged hnode] at he ⊢
        obtain ⟨hd, hleft⟩ := ih (i := l) (d := d + 1) (by omega) (by omega) fun p hp =>
          he p (List.mem_append_left _ hp)
        obtain ⟨-, hright⟩ := ih (i := r) (d := d + 1) (by omega) (by omega) fun p hp =>
          he p (List.mem_append_right _ hp)
        refine ⟨by omega, ?_⟩
        rw [List.map_append, List.sum_append, hleft, hright, ← Nat.two_mul, ← Nat.pow_succ']
        congr 1
        omega

/-- The arena during merging: the live nodes exist, are distinct, and below them stand the symbols of the table, each
once. -/
structure Merging (xs : List Nat) (nodes : List Node) (live : List Nat) : Prop where
  childrenBefore : ChildrenBefore nodes
  liveInNode : ∀ i ∈ live, i < nodes.length
  symbols : (live.flatMap (symbolsBelow nodes)).Perm xs

theorem childrenBefore_append {nodes : List Node} (hc : ChildrenBefore nodes) {w a b : Nat} (ha : a < nodes.length)
    (hb : b < nodes.length) : ChildrenBefore (nodes ++ [.merged w a b]) := by
  intro i w' l r h
  rcases Nat.lt_or_ge i nodes.length with hi | hi
  · exact hc i w' l r (by rwa [List.getElem?_append_left hi] at h)
  · rw [List.getElem?_append_right hi, List.getElem?_singleton] at h
    split at h
    next =>
      obtain ⟨-, rfl, rfl⟩ := Node.merged.inj (Option.some.inj h)
      omega
    next => cases h

/-- A merge moves the symbols of two live nodes under the new one. -/
theorem Merging.merge {xs : List Nat} {nodes : List Node} {live : List Nat} (h : Merging xs nodes live) {a b : Nat}
    (ha : a ∈ live) (hb : b ∈ live.erase a) (w : Nat) :
    Merging xs (nodes ++ [.merged w a b]) ((live.erase a).erase b ++ [nodes.length]) := by
  have hlt {i : Nat} (hi : i ∈ (live.erase a).erase b) : i < nodes.length :=
    h.liveInNode i (List.mem_of_mem_erase (List.mem_of_mem_erase hi))
  have halt := h.liveInNode a ha
  have hblt := h.liveInNode b (List.mem_of_mem_erase hb)
  have hc := childrenBefore_append (w := w) h.childrenBefore halt hblt
  refine ⟨hc, fun i hi => ?_, ?_⟩
  · rw [List.length_append]
    rcases List.mem_append.mp hi with hi | hi
    · exact Nat.lt_succ_of_lt (hlt hi)
    · rw [List.mem_singleton.mp hi]
      exact Nat.lt_succ_self _
  · have hroot : (nodes ++ [Node.merged w a b])[nodes.length]? = some (.merged w a b) := by simp
    have hnew : symbolsBelow (nodes ++ [.merged w a b]) nodes.length = symbolsBelow nodes a ++ symbolsBelow nodes b := by
      rw [symbolsBelow, leavesBelow_merged hroot, List.map_append,
        map_fst_leavesBelow hc (by simp; omega) halt, map_fst_leavesBelow hc (by simp; omega) hblt,
        symbolsBelow_append h.childrenBefore _ halt, symbolsBelow_append h.childrenBefore _ hblt]
    have hrest : ((live.erase a).erase b).flatMap (symbolsBelow (nodes ++ [.merged w a b])) =
        ((live.erase a).erase b).flatMap (symbolsBelow nodes) :=
      List.flatMap_congr fun i hi => symbolsBelow_append h.childrenBefore _ (hlt hi)
    have hlive : live.Perm (a :: b :: (live.erase a).erase b) :=
      (List.perm_cons_erase ha).trans ((List.perm_cons_erase hb).cons a)
    rw [List.flatMap_append, List.flatMap_singleton, hnew, hrest]
    refine List.perm_append_comm.trans ((?_ : List.Perm _ _).trans h.symbols)
    have := (hlive.flatMap_right (symbolsBelow nodes)).symm
    simpa only [List.flatMap_cons, List.append_assoc] using this

/-- The loop ends with one root above all of the symbols. -/
theorem Merging.root {xs : List Nat} {k : Nat} {nodes : List Node} {live : List Nat} (h : Merging xs nodes live)
    (hne : live ≠ []) (hk : live.length ≤ k + 1) :
    ∃ nodes' root, mergeLoop k nodes live = (nodes', [root]) ∧ Merging xs nodes' [root] := by
  have hpos := List.length_pos_of_ne_nil hne
  induction k generalizing nodes live with
  | zero =>
    obtain ⟨root, rfl⟩ := List.length_eq_one_iff.mp (by omega : live.length = 1)
    exact ⟨nodes, root, mergeLoop_of_single (by simp), h⟩
  | succ k ih =>
    rcases Nat.lt_or_ge live.length 2 with h1 | h2
    · obtain ⟨root, rfl⟩ := List.length_eq_one_iff.mp (by omega : live.length = 1)
      exact ⟨nodes, root, mergeLoop_of_single (by simp), h⟩
    · obtain ⟨a, b, ha, hb, hstep⟩ := mergeStep_of_two_live nodes h2
      have hlen := length_merged_live ha hb nodes.length
      rw [mergeLoop_of_merge h2 hstep]
      exact ih (h.merge ha hb _) (by simp) (by omega) (by simp)

/-- The leaves before any merge. -/
theorem merging_leaves (F : List Nat) :
    Merging ((leafEntries F).map Prod.snd) (leaves F) (List.range (leaves F).length) where
  childrenBefore i w l r h := by
    obtain ⟨e, -, he⟩ := List.mem_map.mp (List.mem_of_getElem? h)
    cases he
  liveInNode i hi := List.mem_range.mp hi
  symbols := by
    have hbelow : (List.range (leaves F).length).flatMap (symbolsBelow (leaves F)) = (leafEntries F).map Prod.snd := by
      have hone : ∀ i ∈ List.range (leaves F).length,
          symbolsBelow (leaves F) i = [((leafEntries F).map Prod.snd).getD i 0] := by
        intro i hi
        have hi : i < (leafEntries F).length := by simpa [leaves] using hi
        have hleaf : (leaves F)[i]? = some (.leaf (leafEntries F)[i].1 (leafEntries F)[i].2) := by
          simp [leaves, hi]
        rw [symbolsBelow, leavesBelow_leaf hleaf, List.getD_eq_getElem _ _ (by simpa using hi), List.getElem_map]
        rfl
      rw [List.flatMap_congr hone]
      refine List.ext_getElem (by simp [leaves, List.length_flatMap]) fun i hi hi' => ?_
      simp only [List.getElem_map, ← List.map_eq_flatMap, List.getElem_range]
      rw [List.getD_eq_getElem _ _ hi', List.getElem_map]
    rw [hbelow]

theorem leavesBelow_ne_nil {nodes : List Node} (hc : ChildrenBefore nodes) {k i d : Nat} (hi : i < nodes.length)
    (hk : i < k) : leavesBelow nodes k i d ≠ [] := by
  intro hnil
  have hsum := (kraft_leavesBelow hc (e := d) (d := d) hi hk (by simp [hnil])).2
  simp [hnil] at hsum

/-- The pairs that extraction writes: one for each symbol below the root, at a depth of at least 1; a lone root gets 1
(R130). -/
theorem extract_writes {xs : List Nat} {nodes : List Node} {root : Nat} (h : Merging xs nodes [root]) (size : Nat) :
    ∃ ps, extract nodes root size = writeLengths ps (List.replicate size 0) ∧ (ps.map Prod.fst).Perm xs ∧
      (∀ p ∈ ps, p.2 ≠ 0) ∧ ((ps.length = 1 ∧ ∀ p ∈ ps, p.2 = 1) ∨
        (2 ≤ ps.length ∧ ∀ e, (∀ p ∈ ps, p.2 ≤ e) → (ps.map fun p => 2 ^ (e - p.2)).sum = 2 ^ e)) := by
  have hroot := h.liveInNode root (by simp)
  have hperm : (symbolsBelow nodes root).Perm xs := by simpa using h.symbols
  cases hnode : nodes[root]? with
  | none => exact absurd hroot (Nat.not_lt.mpr (List.getElem?_eq_none_iff.mp hnode))
  | some nd =>
    cases nd with
    | leaf w x =>
      refine ⟨[(x, 1)], extract_of_leaf hnode, ?_, by simp, .inl ⟨rfl, by simp⟩⟩
      simpa [symbolsBelow, leavesBelow_leaf hnode] using hperm
    | merged w l r =>
      obtain ⟨hl, hr⟩ := h.childrenBefore root w l r hnode
      obtain ⟨k, hk⟩ := Nat.exists_eq_succ_of_ne_zero (Nat.ne_of_gt (Nat.zero_lt_of_lt hroot))
      have hsplit : leavesBelow nodes nodes.length root 0 = leavesBelow nodes k l 1 ++ leavesBelow nodes k r 1 := by
        rw [hk]
        exact leavesBelow_merged hnode
      refine ⟨leavesBelow nodes nodes.length root 0, ?_, ?_, fun p hp => ?_, .inr ⟨?_, fun e he => ?_⟩⟩
      · rw [extract_of_merged hnode, walk_eq_writeLengths]
      · rw [map_fst_leavesBelow h.childrenBefore hroot hroot]
        exact hperm
      · rw [hsplit] at hp
        have hdepth : 1 ≤ p.2 := by
          rcases List.mem_append.mp hp with hp | hp
          · exact (leavesBelow_depth nodes k l 1).2 p hp
          · exact (leavesBelow_depth nodes k r 1).2 p hp
        omega
      · have hleft := List.length_pos_of_ne_nil
          (leavesBelow_ne_nil h.childrenBefore (k := k) (i := l) (d := 1) (by omega) (by omega))
        have hright := List.length_pos_of_ne_nil
          (leavesBelow_ne_nil h.childrenBefore (k := k) (i := r) (d := 1) (by omega) (by omega))
        rw [hsplit, List.length_append]
        omega
      · exact (kraft_leavesBelow h.childrenBefore hroot hroot he).2

/-- Unlimited lengths as the limiter gets them for the symbols `xs`: a complete code, or the one symbol with length
1. -/
structure TreeLengths (size : Nat) (xs U : List Nat) : Prop where
  size : U.length = size
  used : ∀ x, U.getD x 0 = 0 ↔ x ∉ xs
  complete : (usedCount U = 1 ∧ ∀ l ∈ U, l ≤ 1) ∨ (2 ≤ usedCount U ∧ KraftOne U)

theorem extract_treeLengths {xs : List Nat} {nodes : List Node} {root size : Nat} (h : Merging xs nodes [root])
    (hnodup : xs.Nodup) (hlt : ∀ x ∈ xs, x < size) : TreeLengths size xs (extract nodes root size) := by
  obtain ⟨ps, hextract, hperm, hne, hcases⟩ := extract_writes h size
  have hps : ∀ p ∈ ps, p.1 < size ∧ p.2 ≠ 0 := fun p hp =>
    ⟨hlt p.1 (hperm.subset (List.mem_map_of_mem hp)), hne p hp⟩
  have hsum (w : Nat → Nat) := usedSum_writeLengths_replicate w (hperm.nodup_iff.mpr hnodup) hps
  have hcount : usedCount (writeLengths ps (List.replicate size 0)) = ps.length := by
    rw [usedCount_eq_usedSum, hsum]
    simp
  have hcap {M : Nat} (hM : ∀ p ∈ ps, p.2 ≤ M) : ∀ l ∈ writeLengths ps (List.replicate size 0), l ≤ M :=
    foldl_set_le hM (by simp)
  refine ⟨length_extract _ _ _, fun x => ?_, ?_⟩
  · rw [hextract, writeLengths_eq_zero_iff hps, hperm.mem_iff]
  · rw [hextract, hcount]
    rcases hcases with ⟨hone, hp1⟩ | ⟨htwo, hkraft⟩
    · exact .inl ⟨hone, hcap fun p hp => (hp1 p hp).le⟩
    · have hmax : ∀ p ∈ ps, p.2 ≤ (ps.map Prod.snd).sum := fun p hp =>
        List.single_le_sum (fun _ _ => Nat.zero_le _) _ (List.mem_map_of_mem hp)
      refine .inr ⟨htwo, kraftOne_of_scale (hcap hmax) ?_⟩
      rw [kraft_eq_usedSum, hsum, hkraft _ hmax]

end Sys2Proof.Machine
end

section
/-! PROOFS. The default limiter (R132) on the depths of a tree: every pass of its loop lowers the Kraft sum by exactly
1, so that the dealt lengths are those of a complete code. -/

namespace Sys2Proof.Machine

/-- Counts of lengths up to `m + 1` that the loop can repair: less than the whole below the limit, and no more codes
than the limit has room for. -/
structure Repairable (m : Nat) (cnt : List Nat) : Prop where
  size : cnt.length = m + 2
  below : weightedCount (fun l => 2 ^ (m + 1 - l)) cnt m < 2 ^ (m + 1)
  few : codeCount cnt (m + 1) ≤ 2 ^ (m + 1)

theorem kraftScaled_eq_weightedCount (cnt : List Nat) (M : Nat) :
    kraftScaled cnt M = weightedCount (fun l => 2 ^ (M - l)) cnt M := rfl

/-- The Kraft sum is the part below the limit and the codes of the limit. -/
theorem kraftScaled_succ (cnt : List Nat) (m : Nat) : kraftScaled cnt (m + 1) =
    weightedCount (fun l => 2 ^ (m + 1 - l)) cnt m + cnt.getD (m + 1) 0 := by
  have hsplit := weightedCount_succ (fun l => 2 ^ (m + 1 - l)) cnt m
  rw [Nat.sub_self, Nat.pow_zero, Nat.mul_one] at hsplit
  exact hsplit

theorem getD_lengthenOne_limit (c : List Nat) {m l : Nat} (hl : l < m + 1) :
    c.getD (m + 1) 0 ≤ (lengthenOne c l).getD (m + 1) 0 := by
  have hset : (c.set l (c.getD l 0 - 1)).getD (m + 1) 0 = c.getD (m + 1) 0 := getD_set_of_ne _ (by omega)
  rw [lengthenOne]
  by_cases hlast : l + 1 = m + 1
  · rcases Nat.lt_or_ge (m + 1) c.length with hlt | hge
    · rw [hlast, getD_set_self _ (by simpa using hlt), hset]
      omega
    · rw [List.getD_eq_default _ _ hge]
      exact Nat.zero_le _
  · rw [getD_set_of_ne _ hlast, hset]

/-- A pass while the Kraft sum is too large lowers it by 1 and keeps the number of codes. -/
theorem limitPass_exact {m : Nat} {cnt : List Nat} (h : Repairable m cnt)
    (hover : 2 ^ (m + 1) < kraftScaled cnt (m + 1)) : Repairable m (limitPass (m + 1) cnt) ∧
      kraftScaled (limitPass (m + 1) cnt) (m + 1) + 1 = kraftScaled cnt (m + 1) ∧
      codeCount (limitPass (m + 1) cnt) (m + 1) = codeCount cnt (m + 1) := by
  have hsplit := kraftScaled_succ cnt m
  have hbelow := h.below
  have hfew := h.few
  have hlimit : 1 ≤ cnt.getD (m + 1) 0 := by omega
  have dropped (w : Nat → Nat) := weightedCount_set w cnt (cnt.getD (m + 1) 0 - 1) (Nat.le_add_left 1 m)
    (Nat.le_refl _) (by rw [h.size]; exact Nat.lt_succ_self _)
  have hcbelow := weightedCount_set_of_lt (fun l => 2 ^ (m + 1 - l)) cnt (cnt.getD (m + 1) 0 - 1) (Nat.lt_succ_self m)
  have hclen : (cnt.set (m + 1) (cnt.getD (m + 1) 0 - 1)).length = m + 2 := by rw [List.length_set, h.size]
  rw [limitPass_eq]
  generalize cnt.set (m + 1) (cnt.getD (m + 1) 0 - 1) = c at dropped hcbelow hclen ⊢
  have hkraft : kraftScaled c (m + 1) + 1 = kraftScaled cnt (m + 1) := by
    have := dropped fun l => 2 ^ (m + 1 - l)
    simp only [Nat.sub_self, Nat.pow_zero, Nat.mul_one] at this
    rw [kraftScaled_eq_weightedCount, kraftScaled_eq_weightedCount]
    omega
  have hcount : codeCount c (m + 1) + 1 = codeCount cnt (m + 1) := by
    have := dropped fun _ => 1
    simp only [codeCount]
    omega
  cases hl : longestShorter c (m + 1) with
  | none =>
    have hslack := kraftScaled_eq c (m + 1)
    rw [slack_of_no_shorter hl] at hslack
    omega
  | some l =>
    obtain ⟨h1, hlM, hpos⟩ := longestShorter_some hl
    have hpow : 2 ^ (m + 1 - l) = 2 * 2 ^ (m + 1 - (l + 1)) := by
      rw [← Nat.pow_succ', show (m + 1 - (l + 1)).succ = m + 1 - l by omega]
    have hkraft' : kraftScaled (lengthenOne c l) (m + 1) = kraftScaled c (m + 1) := by
      have := weightedCount_lengthenOne (fun l => 2 ^ (m + 1 - l)) h1 hlM hclen hpos
      rw [kraftScaled_eq_weightedCount, kraftScaled_eq_weightedCount]
      omega
    have hcount' : codeCount (lengthenOne c l) (m + 1) = codeCount c (m + 1) + 1 := by
      have := weightedCount_lengthenOne (fun _ => 1) h1 hlM hclen hpos
      simp only [codeCount]
      omega
    have hgrow := getD_lengthenOne_limit c hlM
    have hsplit' := kraftScaled_succ (lengthenOne c l) m
    have hsplitc := kraftScaled_succ c m
    simp only [Option.map_some, Option.getD_some]
    refine ⟨⟨by simpa [lengthenOne] using hclen, by omega, by omega⟩, by omega, by omega⟩

/-- As many passes as the Kraft sum is too large make it exactly the whole. -/
theorem limitPasses_exact {m : Nat} (k : Nat) {cnt : List Nat} (h : Repairable m cnt)
    (hk : kraftScaled cnt (m + 1) = 2 ^ (m + 1) + k) :
    kraftScaled (limitPasses (m + 1) k cnt) (m + 1) = 2 ^ (m + 1) ∧
      codeCount (limitPasses (m + 1) k cnt) (m + 1) = codeCount cnt (m + 1) := by
  induction k generalizing cnt with
  | zero => exact ⟨hk, rfl⟩
  | succ k ih =>
    obtain ⟨hrep, hkraft, hcount⟩ := limitPass_exact h (by omega)
    obtain ⟨hdone, hsame⟩ := ih hrep (by omega)
    exact ⟨hdone, hsame.trans hcount⟩

/-- Below the limit the folded counts are the counts. -/
theorem weightedCount_foldedCounts (U : List Nat) {M N : Nat} (hN : N < M) :
    weightedCount (fun l => 2 ^ (M - l)) (foldedCounts U M) N = kraftUpTo M N U := by
  induction N with
  | zero => rw [kraftUpTo_zero]; rfl
  | succ N ih =>
    have hfold : (foldedCounts U M).getD (N + 1) 0 = U.count (N + 1) := by
      simp [foldedCounts, List.getD_eq_getElem?_getD, Nat.lt_of_succ_lt hN, Nat.ne_of_lt hN]
    rw [weightedCount_succ, ih (Nat.lt_of_succ_lt hN), hfold, kraftUpTo_succ]

/-- A larger scale multiplies a part of the Kraft sum. -/
theorem kraftUpTo_add {e l : Nat} (hl : l ≤ e) (d : Nat) (L : List Nat) :
    kraftUpTo (e + d) l L = kraftUpTo e l L * 2 ^ d := by
  rw [kraftUpTo, kraftUpTo, ← usedSum_mul]
  refine usedSum_congr fun x _ _ => ?_
  split
  · rw [← Nat.pow_add]
    congr 1
    omega
  · rw [Nat.zero_mul]

/-- A part of the Kraft sum that leaves a length out is less than the whole. -/
theorem kraftUpTo_lt {e l x : Nat} {L : List Nat} (hx : x ∈ L) (hlx : l < x) : kraftUpTo e l L < kraft e L := by
  have hpart : kraftUpTo e l L + usedSum (fun y => if y ≤ l then 0 else 2 ^ (e - y)) L = kraft e L := by
    rw [kraft_eq_usedSum, kraftUpTo]
    clear hx
    induction L with
    | nil => rfl
    | cons y L ih =>
      simp only [usedSum_cons] at ih ⊢
      split_ifs <;> omega
  have hrest := le_usedSum (w := fun y => if y ≤ l then 0 else 2 ^ (e - y)) hx (Nat.ne_of_gt (Nat.zero_lt_of_lt hlx))
  simp only [Nat.not_le.mpr hlx, if_false] at hrest
  have := Nat.two_pow_pos (e - x)
  omega

/-- The folded counts of a tree that is too deep can be repaired (R132). -/
theorem foldedCounts_repairable {U : List Nat} {m x : Nat} (hU : KraftOne U) (hfew : usedCount U ≤ 2 ^ (m + 1))
    (hx : x ∈ U) (hlong : m + 1 < x) : Repairable m (foldedCounts U (m + 1)) := by
  refine ⟨by simp [foldedCounts], ?_, ?_⟩
  · obtain ⟨e, he, hme⟩ : ∃ e, (∀ l ∈ U, l ≤ e) ∧ m + 1 ≤ e :=
      ⟨U.sum + (m + 1), fun l hl => Nat.le_add_right_of_le (List.single_le_sum (fun _ _ => Nat.zero_le _) _ hl),
        Nat.le_add_left _ _⟩
    obtain ⟨d, rfl⟩ := Nat.exists_eq_add_of_le hme
    have hlt := kraftUpTo_lt (e := m + 1 + d) hx (Nat.lt_of_succ_lt hlong)
    rw [hU _ he, kraftUpTo_add (Nat.le_succ m), Nat.pow_add] at hlt
    rw [weightedCount_foldedCounts U (Nat.lt_succ_self m)]
    exact Nat.lt_of_mul_lt_mul_right hlt
  · rw [codeCount_foldedCounts U (Nat.le_add_left 1 m), length_usedEntries]
    exact hfew

/-- Folding the too long codes into the limit: each counts as one of the limit. -/
theorem kraftScaled_foldedCounts (U : List Nat) (m : Nat) : kraftScaled (foldedCounts U (m + 1)) (m + 1) =
    usedSum (fun x => 2 ^ (m + 1 - min x (m + 1))) U := by
  rw [kraftScaled_succ, weightedCount_foldedCounts U (Nat.lt_add_one m), getD_foldedCounts U (Nat.lt_add_one m),
    kraftUpTo]
  induction U with
  | nil => rfl
  | cons x U ih =>
    rw [usedSum_cons, usedSum_cons, List.countP_cons, ← ih]
    rcases Nat.lt_or_ge m x with hlong | hshort
    · have hmin : min x (m + 1) = m + 1 := Nat.min_eq_right hlong
      simp only [hmin, Nat.not_le.mpr hlong, Nat.ne_of_gt (Nat.zero_lt_of_lt hlong), Nat.sub_self, if_false, decide_true,
        if_true, Nat.pow_zero]
      omega
    · have hmin : min x (m + 1) = x := Nat.min_eq_left (Nat.le_succ_of_le hshort)
      simp only [hmin, hshort, if_true, show x ≠ m + 1 by omega, decide_false, Bool.false_eq_true, if_false]
      omega

/-- Folding does not lower the Kraft sum. -/
theorem kraftScaled_foldedCounts_ge {m : Nat} {U : List Nat} (hU : KraftOne U) :
    2 ^ (m + 1) ≤ kraftScaled (foldedCounts U (m + 1)) (m + 1) := by
  have hcap : ∀ l ∈ U, l ≤ m + 1 + U.sum := fun l hl =>
    Nat.le_add_left_of_le (List.single_le_sum (fun _ _ => Nat.zero_le _) _ hl)
  have hscaled : 2 ^ (m + 1) * 2 ^ U.sum ≤ usedSum (fun x => 2 ^ (m + 1 - min x (m + 1))) U * 2 ^ U.sum := by
    rw [← Nat.pow_add, ← hU _ hcap, kraft_eq_usedSum, ← usedSum_mul]
    refine usedSum_le_usedSum fun x _ _ => ?_
    rw [← Nat.pow_add]
    exact Nat.pow_le_pow_right (by decide) (by omega)
  rw [kraftScaled_foldedCounts]
  exact Nat.le_of_mul_le_mul_right hscaled (Nat.two_pow_pos _)

theorem sum_map_dealtLengths (w : Nat → Nat) (cnt : List Nat) (M : Nat) :
    ((dealtLengths cnt M).map w).sum = weightedCount w cnt M := by
  induction M with
  | zero => rfl
  | succ M ih =>
    have hdeal : dealtLengths cnt (M + 1) = dealtLengths cnt M ++ List.replicate (cnt.getD (M + 1) 0) (M + 1) := by
      simp only [dealtLengths, List.range_succ, List.flatMap_append, List.flatMap_singleton]
    rw [hdeal, List.map_append, List.sum_append, ih, weightedCount_succ, List.map_replicate, List.sum_replicate,
      smul_eq_mul]

/-- What the default limiter deals when a length is above the limit (R132). -/
def repairedCounts (U : List Nat) (M : Nat) : List Nat :=
  limitPasses M (kraftScaled (foldedCounts U M) M - 2 ^ M) (foldedCounts U M)

theorem defaultLimiter_of_long {U : List Nat} {M x : Nat} (hx : x ∈ U) (hlong : M < x) : defaultLimiter U M =
    writeLengths ((limitOrder U).zip (dealtLengths (repairedCounts U M) M)) (List.replicate U.length 0) := by
  have hnot : ¬ U.all (fun l => decide (l ≤ M)) = true := by
    simp only [List.all_eq_true, decide_eq_true_eq, not_forall]
    exact ⟨x, hx, Nat.not_le.mpr hlong⟩
  simp only [defaultLimiter, hnot, Bool.false_eq_true, if_false]
  rfl

theorem defaultLimiter_of_short {U : List Nat} {M : Nat} (h : ∀ l ∈ U, l ≤ M) : defaultLimiter U M = U :=
  if_pos (by simpa using h)

/-- The symbols of the order are the used ones, each once. -/
theorem mem_limitOrder {U : List Nat} {x : Nat} : x ∈ limitOrder U ↔ U.getD x 0 ≠ 0 := by
  rw [(limitOrder_perm U).mem_iff]
  simp only [usedEntries, List.mem_map, List.mem_filter, Prod.exists, exists_eq_right, mem_zipIdx_iff_getD,
    decide_eq_true_eq]
  constructor
  · rintro ⟨w, ⟨-, rfl⟩, hpos⟩
    exact Nat.ne_of_gt hpos
  · intro h
    exact ⟨_, ⟨lt_length_of_getD_ne_zero h, rfl⟩, Nat.pos_of_ne_zero h⟩

theorem limitOrder_nodup (U : List Nat) : (limitOrder U).Nodup := by
  rw [(limitOrder_perm U).nodup_iff]
  have hall : (U.zipIdx.map Prod.snd).Nodup := by
    rw [List.zipIdx_map_snd]
    exact List.nodup_range'
  exact hall.sublist (List.filter_sublist.map Prod.snd)

theorem length_limitOrder (U : List Nat) : (limitOrder U).length = usedCount U := by
  rw [(limitOrder_perm U).length_eq, List.length_map, length_usedEntries]

/-- The repair of R132 keeps the used symbols and makes the code complete. -/
theorem defaultLimiter_repairs {U : List Nat} {M x : Nat} (hU : KraftOne U) (htwo : 2 ≤ usedCount U)
    (hfew : usedCount U ≤ 2 ^ M) (hx : x ∈ U) (hlong : M < x) :
    (∀ y, (defaultLimiter U M).getD y 0 = 0 ↔ U.getD y 0 = 0) ∧ KraftOne (defaultLimiter U M) := by
  obtain ⟨m, rfl⟩ : ∃ m, M = m + 1 := by
    refine Nat.exists_eq_succ_of_ne_zero ?_
    rintro rfl
    omega
  obtain ⟨hkraft, hcount⟩ := limitPasses_exact _ (foldedCounts_repairable hU hfew hx hlong)
    (Nat.add_sub_cancel' (kraftScaled_foldedCounts_ge hU)).symm
  have hlen : (limitOrder U).length = (dealtLengths (repairedCounts U (m + 1)) (m + 1)).length := by
    rw [length_limitOrder, length_dealtLengths, repairedCounts, hcount, codeCount_foldedCounts U (Nat.le_add_left 1 m),
      length_usedEntries]
  have hfst := List.map_fst_zip hlen.le
  have hps : ∀ p ∈ (limitOrder U).zip (dealtLengths (repairedCounts U (m + 1)) (m + 1)), p.1 < U.length ∧ p.2 ≠ 0 := by
    intro p hp
    obtain ⟨h1, h2⟩ := List.of_mem_zip hp
    exact ⟨lt_length_of_getD_ne_zero (mem_limitOrder.mp h1), (mem_dealtLengths h2).1⟩
  refine ⟨fun y => ?_, kraftOne_of_scale (defaultLimiter_le U (m + 1)) ?_⟩
  · rw [defaultLimiter_of_long hx hlong, writeLengths_eq_zero_iff hps, hfst, mem_limitOrder, not_not]
  · have hsnd : ((limitOrder U).zip (dealtLengths (repairedCounts U (m + 1)) (m + 1))).map
        (fun p => 2 ^ (m + 1 - p.2)) = (dealtLengths (repairedCounts U (m + 1)) (m + 1)).map
        fun l => 2 ^ (m + 1 - l) := by
      conv_rhs => rw [← List.map_snd_zip hlen.ge, List.map_map]
      rfl
    rw [kraft_eq_usedSum, defaultLimiter_of_long hx hlong,
      usedSum_writeLengths_replicate _ (by rw [hfst]; exact limitOrder_nodup U) hps, hsnd, sum_map_dealtLengths]
    exact hkraft

/-- The default limiter meets the postconditions of R131. -/
theorem defaultLimiter_conforms : LimiterConforms fun _ => defaultLimiter := by
  refine ⟨fun _ U M h => defaultLimiter_of_short h, fun _ U M _ _ hU htwo hfew => ?_⟩
  refine ⟨length_defaultLimiter U M, ?_⟩
  show (∀ x, (defaultLimiter U M).getD x 0 = 0 ↔ U.getD x 0 = 0) ∧ (∀ l ∈ defaultLimiter U M, l ≤ M) ∧
    KraftOne (defaultLimiter U M)
  by_cases hshort : ∀ l ∈ U, l ≤ M
  · rw [defaultLimiter_of_short hshort]
    exact ⟨fun _ => Iff.rfl, hshort, hU⟩
  · simp only [not_forall, Nat.not_le] at hshort
    obtain ⟨x, hx, hlong⟩ := hshort
    obtain ⟨hused, hone⟩ := defaultLimiter_repairs hU htwo hfew hx hlong
    exact ⟨hused, defaultLimiter_le U M, hone⟩

theorem params_conforming : Conforming params := ⟨Nat.le_refl _, defaultLimiter_conforms⟩

/-- Settles O19: the bound is the default, and the default limiter repairs the depths of a tree. -/
theorem defaultParametersConform : Obligations.DefaultParametersConform := params_conforming

theorem usedCount_le_codes {a : Alphabet} {L : List Nat} (h : L.length = a.size) : usedCount L ≤ 2 ^ a.maxLen :=
  Nat.le_trans (usedCount_le_length L) (h ▸ (alphabet_size_bounds a).2.2)

/-- Settles O41: HUFF_LIMIT writes the default limiter's answer on the lengths cut to the alphabet's size. -/
theorem limitMeetsItsPostconditions : Obligations.LimitMeetsItsPostconditions := by
  intro a s
  have hlen : (defaultLimiter (fit a.size s.u) a.maxLen).length = a.size := by
    rw [length_defaultLimiter, length_fit]
  have hexec : exec (.huffLimit a) s = .next (s.setLens a (defaultLimiter (fit a.size s.u) a.maxLen)) := by
    have hfit := fit_of_length hlen
    exact congrArg (fun L => Host.Outcome.next (s.setLens a L)) hfit
  refine ⟨_, hexec, hlen, defaultLimiter_le _ _, defaultLimiter_of_short, fun hone htwo => ?_⟩
  obtain ⟨-, hused, -, hkraft⟩ := defaultLimiter_conforms.2 (fit a.size s.u) (fit a.size s.u) a.maxLen rfl
    (fun _ h => Nat.ne_of_gt h) hone htwo (usedCount_le_codes (length_fit _ _))
  exact ⟨hused, hkraft⟩

end Sys2Proof.Machine
end

section
/-! PROOFS. HUFF_BUILD (R125, R139) with any conforming limiter: which lengths it writes, and that they are those of a
code. -/

namespace Sys2Proof.Machine

/-- The arena and the one live node after merging the leaves of a table (R128). -/
def builtTree (F : List Nat) : List Node × List Nat :=
  mergeLoop (leaves F).length (leaves F) (List.range (leaves F).length)

/-- The unlimited lengths of the tree of a table (R129, R130). -/
def treeDepths (size : Nat) (F : List Nat) : List Nat := extract (builtTree F).1 ((builtTree F).2.headD 0) size

/-- The lengths that HUFF_BUILD writes for a table of frequencies. -/
def builtLengths (limiter : List Nat → List Nat → Nat → List Nat) (a : Alphabet) (F : List Nat) : List Nat :=
  limiter F (treeDepths a.size F) a.maxLen

theorem leaves_ne_nil_of_size {a : Alphabet} {F : List Nat} (h : F.length = a.size) : leaves F ≠ [] := by
  refine leaves_ne_nil ?_
  rintro rfl
  have := (alphabet_size_bounds a).1
  rw [List.length_nil] at h
  omega

theorem builtTree_root {a : Alphabet} {F : List Nat} (h : F.length = a.size) :
    ∃ nodes root, builtTree F = (nodes, [root]) ∧ Merging ((leafEntries F).map Prod.snd) nodes [root] :=
  (merging_leaves F).root (by simpa using leaves_ne_nil_of_size h) (by simp)

theorem treeDepths_treeLengths {a : Alphabet} {F : List Nat} (h : F.length = a.size) :
    TreeLengths a.size ((leafEntries F).map Prod.snd) (treeDepths a.size F) := by
  obtain ⟨nodes, root, htree, hmerging⟩ := builtTree_root h
  rw [treeDepths, htree]
  refine extract_treeLengths hmerging ((leafEntries_sorted F).imp Nat.ne_of_lt) fun x hx => ?_
  obtain ⟨e, he, rfl⟩ := List.mem_map.mp hx
  exact h ▸ (mem_leafEntries.mp he).1

/-- Code lengths that leave room for a code and serve a table of frequencies (R131, R134). -/
structure CodeFor (a : Alphabet) (F L : List Nat) : Prop extends LengthsFor a F L where
  some : 1 ≤ usedCount L
  room : KraftAtMostOne L
  complete : 2 ≤ usedCount L → KraftOne L

/-- A conforming limiter keeps which symbols have a code, caps the lengths and keeps the code complete. -/
theorem limiter_of_treeLengths {limiter : List Nat → List Nat → Nat → List Nat} (hlim : LimiterConforms limiter)
    {a : Alphabet} {F U xs : List Nat} (hF : F.length = a.size) (hused : ∀ x, F.getD x 0 ≠ 0 → x ∈ xs)
    (hU : TreeLengths a.size xs U) : CodeFor a F (limiter F U a.maxLen) := by
  have hin {x : Nat} (hx : F.getD x 0 ≠ 0) : U.getD x 0 ≠ 0 := fun h0 => (hU.used x).mp h0 (hused x hx)
  obtain ⟨hone, hshort⟩ | ⟨htwo, hkraft⟩ := hU.complete
  · have hcap : ∀ l ∈ U, l ≤ a.maxLen := fun l hl => Nat.le_trans (hshort l hl) (alphabet_size_bounds a).2.1
    rw [hlim.1 F U a.maxLen hcap]
    exact {
      size := hU.size, cap := hcap, used := fun x hx => hin hx, some := hone.ge
      room := kraftAtMostOne_of_single hone.le
      complete := fun h => absurd h (by omega) }
  · obtain ⟨hlen, hzero, hcap, hkraft'⟩ := hlim.2 F U a.maxLen (hF.trans hU.size.symm)
      (fun x hx => hin (Nat.ne_of_gt hx)) hkraft htwo (usedCount_le_codes hU.size)
    exact {
      size := hlen.trans hU.size, cap := hcap, used := fun x hx h0 => hin hx ((hzero x).mp h0)
      some := by rw [usedCount_congr hlen hzero]; omega
      room := hkraft'.atMostOne, complete := fun _ => hkraft' }

theorem builtLengths_codeFor {limiter : List Nat → List Nat → Nat → List Nat} (hlim : LimiterConforms limiter)
    {a : Alphabet} {F : List Nat} (hF : F.length = a.size) : CodeFor a F (builtLengths limiter a F) :=
  limiter_of_treeLengths hlim hF
    (fun _ hx => List.mem_map_of_mem (usedEntries_subset_leafEntries F (mem_usedEntries hx)))
    (treeDepths_treeLengths hF)

/-- The state after HUFF_EXTRACT on the tree of the alphabet's table. -/
def State.grown (a : Alphabet) (s : State) : State :=
  { s with node := (builtTree (s.freq a)).1, live := (builtTree (s.freq a)).2, u := treeDepths a.size (s.freq a) }

@[simp] theorem State.freq_grown (a : Alphabet) (s : State) : (s.grown a).freq a = s.freq a := by
  cases a <;> rfl

@[simp] theorem State.codes_grown (a : Alphabet) (s : State) : (s.grown a).codes a = s.codes a := by
  cases a <;> rfl

/-- The state after HUFF_BUILD. -/
def State.built (limiter : List Nat → List Nat → Nat → List Nat) (a : Alphabet) (s : State) : State :=
  ((s.grown a).setLens a (builtLengths limiter a (s.freq a))).setCodes a
    (canonCodes (builtLengths limiter a (s.freq a)) a.maxLen (s.codes a))

theorem opHuffMerge_after_leaves (a : Alphabet) (s : State) :
    opHuffMerge { s with node := leaves (s.freq a), live := List.range (leaves (s.freq a)).length } =
      .ok { s with node := (builtTree (s.freq a)).1, live := (builtTree (s.freq a)).2 } := by
  simp only [opHuffMerge, List.length_range, builtTree]

theorem opHuffExtract_builtTree {a : Alphabet} {s : State} (h : (s.freq a).length = a.size) :
    opHuffExtract a { s with node := (builtTree (s.freq a)).1, live := (builtTree (s.freq a)).2 } =
      .ok (s.grown a) := by
  obtain ⟨nodes, root, htree, -⟩ := builtTree_root h
  simp only [State.grown, treeDepths, htree]
  exact opHuffExtract_of_root rfl

theorem opHuffLimit_grown {limiter : List Nat → List Nat → Nat → List Nat} (hlim : LimiterConforms limiter)
    {a : Alphabet} {s : State} (h : (s.freq a).length = a.size) :
    opHuffLimit limiter a (s.grown a) = .ok ((s.grown a).setLens a (builtLengths limiter a (s.freq a))) := by
  have hfit := fit_of_length (builtLengths_codeFor hlim h).size
  have hu : (s.grown a).u = treeDepths a.size (s.freq a) := rfl
  rw [builtLengths] at hfit ⊢
  rw [opHuffLimit, State.freq_grown, hu, fit_of_length (treeDepths_treeLengths h).size, hfit]

theorem checkLimit_ok {a : Alphabet} {s : State} (h : ∀ l ∈ s.lens a, l ≤ a.maxLen) : checkLimit a s = .ok s :=
  if_pos (by simpa using h)

theorem opHuffCanon_limited (limiter : List Nat → List Nat → Nat → List Nat) (a : Alphabet) (s : State) :
    opHuffCanon a ((s.grown a).setLens a (builtLengths limiter a (s.freq a))) = .ok (s.built limiter a) := by
  rw [opHuffCanon, State.lens_setLens, State.codes_setLens, State.codes_grown, State.built]

theorem opHuffBuild_eq {limiter : List Nat → List Nat → Nat → List Nat} (hlim : LimiterConforms limiter) (a : Alphabet)
    (s : State) (h : (s.freq a).length = a.size) : opHuffBuild limiter a s = .ok (s.built limiter a) := by
  rw [opHuffBuild, opHuffLeaves, andThen_ok, opHuffMerge_after_leaves, andThen_ok, opHuffExtract_builtTree h, andThen_ok,
    opHuffLimit_grown hlim h, andThen_ok, checkLimit_ok (by simpa using (builtLengths_codeFor hlim h).cap), andThen_ok,
    opHuffCanon_limited]

theorem runInstrs_cons {i : Instr} {is : List Instr} {s t : State} (h : exec i s = .next t) :
    runInstrs (i :: is) s = runInstrs is t := by
  rw [runInstrs, h]

/-- With the default limiter, one instruction each for the five steps does the same. -/
theorem runInstrs_build (a : Alphabet) (s : State) (h : (s.freq a).length = a.size) :
    runInstrs [.huffLeaves a, .huffMerge, .huffExtract a, .huffLimit a, .huffCanon a] s =
      .next (s.built params.limiter a) := by
  rw [runInstrs_cons (i := .huffLeaves a) rfl,
    runInstrs_cons (i := .huffMerge) (congrArg finish (opHuffMerge_after_leaves a s)),
    runInstrs_cons (i := .huffExtract a) (congrArg finish (opHuffExtract_builtTree h)),
    runInstrs_cons (i := .huffLimit a) (congrArg finish (opHuffLimit_grown params_conforming.2 h)),
    runInstrs_cons (i := .huffCanon a) (congrArg finish (opHuffCanon_limited params.limiter a s)), runInstrs]

/-- Settles O44: HUFF_BUILD ends in `State.built`, whose lengths are those of a code for the table. -/
theorem buildMakesAPrefixCode : Obligations.BuildMakesAPrefixCode := by
  intro a s h
  have hcode := builtLengths_codeFor params_conforming.2 h
  have hexec : exec (.huffBuild a) s = .next (s.built params.limiter a) :=
    congrArg finish (opHuffBuild_eq params_conforming.2 a s h)
  refine ⟨hexec.trans (runInstrs_build a s h).symm, _, _, _, _, _, hexec, hcode.size, ?_, hcode.cap, hcode.some,
    fun x _ hx => hcode.used x (Nat.ne_of_gt hx), hcode.room, hcode.complete, canonCodes_prefixFree hcode.room hcode.cap⟩
  rw [(canonCodes_spec hcode.cap).1, hcode.size]

end Sys2Proof.Machine
end

section
/-! PROOFS. The tuples of CL_RLE (R142 to R144) expand to the lengths (R149). -/

namespace Sys2Proof.Machine

theorem expandTuple_literal {v : Nat} (hv : v ≤ 15) (V : List Nat) : expandTuple V ⟨v, 0, 0⟩ = V ++ [v] := by
  simp only [expandTuple, show v ≠ 16 by omega, show v ≠ 17 by omega, show v ≠ 18 by omega, if_false]

theorem expandTuple_literals {v : Nat} (hv : v ≤ 15) (r : Nat) (V : List Nat) :
    (List.replicate r (⟨v, 0, 0⟩ : RleTuple)).foldl expandTuple V = V ++ List.replicate r v := by
  induction r generalizing V with
  | zero => simp
  | succ r ih => rw [List.replicate_succ, List.foldl_cons, expandTuple_literal hv, ih, List.replicate_succ,
      List.append_assoc, List.singleton_append]

theorem expand_zeroTuples {k z : Nat} (h : z ≤ k) (V : List Nat) :
    (zeroTuples k z).foldl expandTuple V = V ++ List.replicate z 0 := by
  induction k generalizing z V with
  | zero =>
    obtain rfl := Nat.le_zero.mp h
    simp
  | succ k ih =>
    rw [zeroTuples]
    split
    next hlong =>
      have hexp : expandTuple V ⟨18, 7, min z 138 - 11⟩ = V ++ List.replicate (min z 138 - 11 + 11) 0 := rfl
      rw [List.foldl_cons, hexp, ih (by omega), List.append_assoc, ← List.replicate_add]
      congr 2
      omega
    next =>
      split
      next =>
        have hexp : expandTuple V ⟨17, 3, z - 3⟩ = V ++ List.replicate (z - 3 + 3) 0 := rfl
        rw [List.foldl_cons, hexp, Nat.sub_add_cancel ‹3 ≤ z›, List.foldl_nil]
      next => exact expandTuple_literals (Nat.zero_le _) z V

/-- Repeats of the length before them. -/
theorem expand_repeatTuples {v k r : Nat} (hv : v ≤ 15) (h : r ≤ k) (V : List Nat) :
    (repeatTuples v k r).foldl expandTuple (V ++ [v]) = V ++ [v] ++ List.replicate r v := by
  induction k generalizing r V with
  | zero =>
    obtain rfl := Nat.le_zero.mp h
    simp
  | succ k ih =>
    rw [repeatTuples]
    split
    next hlong =>
      obtain ⟨m, hm⟩ : ∃ m, min r 6 - 3 + 3 = m + 1 := ⟨min r 6 - 3 + 2, rfl⟩
      have hexp : expandTuple (V ++ [v]) ⟨16, 2, min r 6 - 3⟩ = V ++ [v] ++ List.replicate m v ++ [v] := by
        simp only [expandTuple, if_true, hm, List.getLastD_concat, List.replicate_succ', List.append_assoc]
      rw [List.foldl_cons, hexp, ih (by omega), List.append_assoc _ [v], List.singleton_append, ← List.replicate_succ,
        List.append_assoc, ← List.replicate_add]
      congr 2
      omega
    next => exact expandTuple_literals hv r _

theorem leadRun_split (v : Nat) (V : List Nat) : List.replicate (leadRun v V) v ++ V.drop (leadRun v V) = V := by
  have hrun : V.takeWhile (fun x => x == v) = List.replicate (leadRun v V) v :=
    List.eq_replicate_iff.mpr ⟨rfl, fun x hx => by simpa using List.mem_takeWhile_imp hx⟩
  have hdrop : V.drop (leadRun v V) = V.dropWhile fun x => x == v := by
    calc V.drop (leadRun v V)
        = (V.takeWhile (fun x => x == v) ++ V.dropWhile fun x => x == v).drop (leadRun v V) := by
          rw [List.takeWhile_append_dropWhile]
      _ = V.dropWhile fun x => x == v := List.drop_left' rfl
  rw [← hrun, hdrop, List.takeWhile_append_dropWhile]

theorem expand_rleLoop {k : Nat} {V : List Nat} (hk : V.length ≤ k) (hV : ∀ v ∈ V, v ≤ 15) (W : List Nat) :
    (rleLoop k V).foldl expandTuple W = W ++ V := by
  induction k generalizing V W with
  | zero =>
    obtain rfl := List.eq_nil_of_length_eq_zero (Nat.le_zero.mp hk)
    simp [rleLoop]
  | succ k ih =>
    cases V with
    | nil => simp [rleLoop]
    | cons v vs =>
      have hrest (m : Nat) (W : List Nat) := ih (V := vs.drop m) (by simp at hk ⊢; omega)
        (fun x hx => hV x (List.mem_cons_of_mem _ (List.mem_of_mem_drop hx))) W
      have hv := hV v List.mem_cons_self
      rw [rleLoop]
      split
      next h0 =>
        rw [List.foldl_append, expand_zeroTuples le_rfl, hrest, List.append_assoc, List.replicate_succ, List.cons_append,
          leadRun_split, h0]
      next =>
        rw [List.foldl_cons, List.foldl_append, expandTuple_literal hv, expand_repeatTuples hv le_rfl, hrest,
          List.append_assoc, leadRun_split, List.append_assoc, List.singleton_append]

theorem expandRle_rleEncode {V : List Nat} (hV : ∀ v ∈ V, v ≤ 15) : expandRle (rleEncode V) = V :=
  (expand_rleLoop le_rfl hV []).trans (List.nil_append V)

/-- Symbol 16 may stand after the tuple `u` (R145). -/
def RepeatAfter (u t : RleTuple) : Prop := t.symbol = 16 → 1 ≤ u.symbol ∧ u.symbol ≤ 16

theorem zeroTuples_symbol {k z : Nat} {t : RleTuple} (h : t ∈ zeroTuples k z) : t.symbol ≠ 16 := by
  induction k generalizing z with
  | zero => simp [zeroTuples] at h
  | succ k ih =>
    rw [zeroTuples] at h
    split at h
    next =>
      rcases List.mem_cons.mp h with rfl | h
      · exact (by decide : 18 ≠ 16)
      · exact ih h
    next =>
      split at h
      next =>
        rw [List.mem_singleton.mp h]
        exact (by decide : 17 ≠ 16)
      next =>
        rw [List.eq_of_mem_replicate h]
        decide

theorem repeatTuples_symbol {v k r : Nat} (h1 : 1 ≤ v) (hv : v ≤ 15) {t : RleTuple} (h : t ∈ repeatTuples v k r) :
    1 ≤ t.symbol ∧ t.symbol ≤ 16 := by
  induction k generalizing r with
  | zero => simp [repeatTuples] at h
  | succ k ih =>
    rw [repeatTuples] at h
    split at h
    next =>
      rcases List.mem_cons.mp h with rfl | h
      · exact (by decide : 1 ≤ 16 ∧ 16 ≤ 16)
      · exact ih h
    next =>
      rw [List.eq_of_mem_replicate h]
      exact ⟨h1, Nat.le_succ_of_le hv⟩

theorem isChain_of_forall_mem {α : Type} {r : α → α → Prop} {l : List α} (h : ∀ x ∈ l, ∀ y ∈ l, r x y) :
    l.IsChain r :=
  (List.pairwise_of_forall_mem_list h).isChain

/-- The tuples start with no symbol 16 and put it only after a non-zero length. -/
theorem rleLoop_repeats (k : Nat) {V : List Nat} (hV : ∀ v ∈ V, v ≤ 15) :
    (∀ t ∈ (rleLoop k V).head?, t.symbol ≠ 16) ∧ (rleLoop k V).IsChain RepeatAfter := by
  induction k generalizing V with
  | zero => simp [rleLoop]
  | succ k ih =>
    cases V with
    | nil => simp [rleLoop]
    | cons v vs =>
      have hrest (m : Nat) := ih (V := vs.drop m) fun x hx => hV x (List.mem_cons_of_mem _ (List.mem_of_mem_drop hx))
      have hv := hV v List.mem_cons_self
      have happend {l : List RleTuple} (m : Nat) (hl : ∀ u ∈ l, ∀ t ∈ l, RepeatAfter u t) :
          (l ++ rleLoop k (vs.drop m)).IsChain RepeatAfter :=
        List.isChain_append.mpr ⟨isChain_of_forall_mem hl, (hrest m).2, fun _ _ t ht h16 => absurd h16 ((hrest m).1 t ht)⟩
      rw [rleLoop]
      split
      next =>
        refine ⟨fun t ht => ?_, happend _ fun _ _ t ht h16 => absurd h16 (zeroTuples_symbol ht)⟩
        rw [List.head?_append] at ht
        cases hz : (zeroTuples (leadRun 0 vs + 1) (leadRun 0 vs + 1)).head? with
        | none => exact (hrest _).1 t (by simpa [hz] using ht)
        | some u =>
          obtain rfl : u = t := by simpa [hz] using ht
          exact zeroTuples_symbol (List.mem_of_head? hz)
      next hne =>
        have h1 := Nat.pos_of_ne_zero hne
        refine ⟨fun t ht => ?_, ?_⟩
        · obtain rfl : (⟨v, 0, 0⟩ : RleTuple) = t := by simpa using ht
          exact fun h16 : v = 16 => by omega
        · rw [← List.cons_append]
          refine happend _ fun u hu _ _ _ => ?_
          rcases List.mem_cons.mp hu with rfl | hu
          · exact ⟨h1, Nat.le_succ_of_le hv⟩
          · exact repeatTuples_symbol h1 hv hu

theorem rleEncode_repeat {V : List Nat} (hV : ∀ v ∈ V, v ≤ 15) {k : Nat} {t : RleTuple}
    (hk : (rleEncode V)[k]? = some t) (h16 : t.symbol = 16) :
    ∃ j u, k = j + 1 ∧ (rleEncode V)[j]? = some u ∧ 1 ≤ u.symbol ∧ u.symbol ≤ 16 := by
  obtain ⟨hhead, hchain⟩ := rleLoop_repeats V.length hV
  rw [← rleEncode] at hhead hchain
  cases k with
  | zero => exact absurd h16 (hhead t (by rwa [List.head?_eq_getElem?]))
  | succ j =>
    obtain ⟨hlt, rfl⟩ := List.getElem?_eq_some_iff.mp hk
    exact ⟨j, _, rfl, List.getElem?_eq_getElem (Nat.lt_of_succ_lt hlt),
      List.isChain_iff_getElem.mp hchain j hlt h16⟩

/-- Settles O45: by the expansion of each run and the place of symbol 16 in it. -/
theorem rleExpandsToTheLengths : Obligations.RleExpandsToTheLengths := by
  intro s hcap
  obtain ⟨hcount, hwf⟩ := rleEncode_within hcap
  exact ⟨_, exec_clRle s, expandRle_rleEncode hcap, hwf, hcount, fun _ _ hk h16 => rleEncode_repeat hcap hk h16⟩

end Sys2Proof.Machine
end

section
/-! PROOFS. The block of an input (R64, R167) for every conforming block: what the coding phases leave, and that its bits
are a function of the input. -/

namespace Sys2Proof.Machine

/-- The frequencies of the LL symbols of an input, symbol 256 once (R121, R123). -/
def llTable (X : List Byte) : List Nat :=
  ((tokensOf X).filterMap Token.llSymbol ++ [256]).foldl bump (List.replicate 286 0)

/-- The frequencies of the DD symbols of an input (R122). -/
def ddTable (X : List Byte) : List Nat := ((tokensOf X).filterMap Token.ddSymbol).foldl bump (List.replicate 30 0)

/-- The frequencies of the meta symbols of some tuples (R148). -/
def clTable (R : List RleTuple) : List Nat := (R.map RleTuple.symbol).foldl bump (List.replicate 19 0)

/-- The state holds the tokens of an input, and lengths and codes for their symbols, as phases 1 to 4 make them. -/
structure TokenBlock (limiter : List Nat → List Nat → Nat → List Nat) (X : List Byte) (t : State) : Prop where
  noBits : t.bits = []
  n : t.n = X.length
  tok : t.tok = tokensOf X
  lllen : t.lllen = builtLengths limiter .ll (llTable X)
  ddlen : t.ddlen = builtLengths limiter .dd (ddTable X)
  llcode : ∃ old, t.llcode = canonCodes t.lllen 15 old
  ddcode : ∃ old, t.ddcode = canonCodes t.ddlen 15 old

/-- The state holds the block of an input: also the sizes, the tuples, and lengths and codes for their symbols, as phases
5 and 6 make them. -/
structure BlockOf (limiter : List Nat → List Nat → Nat → List Nat) (X : List Byte) (t : State) : Prop extends
    TokenBlock limiter X t where
  cllen : t.cllen = builtLengths limiter .cl (clTable t.rle)
  clcode : ∃ old, t.clcode = canonCodes t.cllen 7 old
  hlit : t.hlit = max 257 (usedLength t.lllen)
  hdist : t.hdist = max 1 (usedLength t.ddlen)
  hclen : t.hclen = max 4 (usedLength (clOrder.map fun c => t.cllen.getD c 0))
  rle : t.rle = rleEncode t.lengthVector

theorem llTable_length (X : List Byte) : (llTable X).length = Alphabet.ll.size := by
  rw [llTable, length_foldl_bump, List.length_replicate]
  rfl

theorem ddTable_length (X : List Byte) : (ddTable X).length = Alphabet.dd.size := by
  rw [ddTable, length_foldl_bump, List.length_replicate]
  rfl

theorem clTable_length (R : List RleTuple) : (clTable R).length = Alphabet.cl.size := by
  rw [clTable, length_foldl_bump, List.length_replicate]
  rfl

section

variable {limiter : List Nat → List Nat → Nat → List Nat} {X : List Byte} {t : State}

theorem TokenBlock.llCodeFor (h : TokenBlock limiter X t) (hlim : LimiterConforms limiter) :
    CodeFor .ll (llTable X) t.lllen :=
  h.lllen ▸ builtLengths_codeFor hlim (llTable_length X)

theorem TokenBlock.ddCodeFor (h : TokenBlock limiter X t) (hlim : LimiterConforms limiter) :
    CodeFor .dd (ddTable X) t.ddlen :=
  h.ddlen ▸ builtLengths_codeFor hlim (ddTable_length X)

theorem BlockOf.clCodeFor (h : BlockOf limiter X t) (hlim : LimiterConforms limiter) :
    CodeFor .cl (clTable t.rle) t.cllen :=
  h.cllen ▸ builtLengths_codeFor hlim (clTable_length t.rle)

theorem usedLength_le_size {a : Alphabet} {F L : List Nat} (h : CodeFor a F L) : usedLength L ≤ a.size :=
  h.size ▸ usedLength_le L

theorem mem_lengthVector_le {s : State} (hll : ∀ l ∈ s.lllen, l ≤ 15) (hdd : ∀ l ∈ s.ddlen, l ≤ 15) :
    ∀ v ∈ s.lengthVector, v ≤ 15 := by
  intro v hv
  rcases List.mem_append.mp hv with hv | hv
  · exact hll v (List.mem_of_mem_take hv)
  · exact hdd v (List.mem_of_mem_take hv)

theorem TokenBlock.lengthVector_le (h : TokenBlock limiter X t) (hlim : LimiterConforms limiter) :
    ∀ v ∈ t.lengthVector, v ≤ 15 :=
  mem_lengthVector_le (h.llCodeFor hlim).cap (h.ddCodeFor hlim).cap

theorem spans_tokensFrom {S : List Byte} {k p : Nat} (hp : p ≤ S.length) (hk : S.length ≤ p + k) :
    p + ((tokensFrom S k p).map Token.span).sum = S.length := by
  induction k generalizing p with
  | zero => exact Nat.le_antisymm hp hk
  | succ k ih =>
    rcases Nat.lt_or_ge p S.length with hlt | hge
    · obtain ⟨-, h1, -, hle, -⟩ := nextToken_spec hlt
      rw [tokensFrom_of_lt hlt, List.map_cons, List.sum_cons, ← Nat.add_assoc, ih hle (by omega)]
    · rw [tokensFrom_of_ge hge]
      exact Nat.le_antisymm hp hge

theorem spans_tokensOf (X : List Byte) : ((tokensOf X).map Token.span).sum = X.length :=
  (Nat.zero_add _).symm.trans (spans_tokensFrom (Nat.zero_le _) (by simp))

/-- A state with the block of an input is ready for the writing phases. -/
theorem BlockOf.coded (h : BlockOf limiter X t) (hlim : LimiterConforms limiter) : Coded t := by
  have hll := h.llCodeFor hlim
  have hdd := h.ddCodeFor hlim
  have hcl := h.clCodeFor hlim
  obtain ⟨hcount, hwf⟩ := rleEncode_within (h.lengthVector_le hlim)
  have hvector : t.lengthVector.length ≤ 316 := by
    have h1 : t.lllen.length = 286 := hll.size
    have h2 : t.ddlen.length = 30 := hdd.size
    simp only [State.lengthVector, List.length_append, List.length_take]
    omega
  have hhlit : usedLength t.lllen ≤ 286 := usedLength_le_size hll
  have hhdist : usedLength t.ddlen ≤ 30 := usedLength_le_size hdd
  have hhclen : usedLength (clOrder.map fun c => t.cllen.getD c 0) ≤ 19 := usedLength_le _
  exact {
    noBits := h.noBits
    tokens := fun x hx => by
      rw [h.tok] at hx
      exact ⟨tokensFrom_wf x hx, tallied_tokens_coded List.length_replicate List.length_replicate hll.toLengthsFor
        hdd.toLengthsFor hx⟩
    spans := by rw [h.tok, h.n, spans_tokensOf]
    endOfBlock := hll.counted List.length_replicate (by simp) (by decide)
    tuples := fun x hx => ⟨hwf x (h.rle ▸ hx), hcl.counted List.length_replicate (List.mem_map_of_mem hx)
      (RleTuple.symbol_lt (hwf x (h.rle ▸ hx)))⟩
    tupleCount := by rw [State.nrle, h.rle]; exact Nat.le_trans hcount hvector
    hlitRange := by rw [h.hlit]; omega
    hdistRange := by rw [h.hdist]; omega
    hclenRange := by rw [h.hclen]; omega
    caps := fun a => match a with
      | .ll => hll.cap
      | .dd => hdd.cap
      | .cl => hcl.cap }

end

/-- HUFF_BUILD of the LL alphabet, field by field. -/
theorem opHuffBuild_ll {limiter : List Nat → List Nat → Nat → List Nat} (hlim : LimiterConforms limiter) {s : State}
    (h : s.llf.length = 286) : opHuffBuild limiter .ll s = .ok { s with
      node := (builtTree s.llf).1, live := (builtTree s.llf).2, u := treeDepths 286 s.llf
      lllen := builtLengths limiter .ll s.llf, llcode := canonCodes (builtLengths limiter .ll s.llf) 15 s.llcode } :=
  (opHuffBuild_eq hlim .ll s h).trans <| by
    simp only [State.built, State.grown, State.setLens, State.setCodes, State.freq, State.codes, Alphabet.size,
      Alphabet.maxLen, Config.llSize, Config.maxLenLLDD]

theorem opHuffBuild_dd {limiter : List Nat → List Nat → Nat → List Nat} (hlim : LimiterConforms limiter) {s : State}
    (h : s.ddf.length = 30) : opHuffBuild limiter .dd s = .ok { s with
      node := (builtTree s.ddf).1, live := (builtTree s.ddf).2, u := treeDepths 30 s.ddf
      ddlen := builtLengths limiter .dd s.ddf, ddcode := canonCodes (builtLengths limiter .dd s.ddf) 15 s.ddcode } :=
  (opHuffBuild_eq hlim .dd s h).trans <| by
    simp only [State.built, State.grown, State.setLens, State.setCodes, State.freq, State.codes, Alphabet.size,
      Alphabet.maxLen, Config.ddSize, Config.maxLenLLDD]

theorem opHuffBuild_cl {limiter : List Nat → List Nat → Nat → List Nat} (hlim : LimiterConforms limiter) {s : State}
    (h : s.clf.length = 19) : opHuffBuild limiter .cl s = .ok { s with
      node := (builtTree s.clf).1, live := (builtTree s.clf).2, u := treeDepths 19 s.clf
      cllen := builtLengths limiter .cl s.clf, clcode := canonCodes (builtLengths limiter .cl s.clf) 7 s.clcode } :=
  (opHuffBuild_eq hlim .cl s h).trans <| by
    simp only [State.built, State.grown, State.setLens, State.setCodes, State.freq, State.codes, Alphabet.size,
      Alphabet.maxLen, Config.clSize, Config.maxLenCL]

/-- The state after TALLY on the input's tokens, with the tables it counted. -/
def State.tallied (s : State) (ph : Phase) : State :=
  { s with phase := ph, p := s.n, tok := tokensOf s.input, ti := (tokensOf s.input).length,
           llf := ((tokensOf s.input).filterMap Token.llSymbol ++ [256]).foldl bump s.llf,
           ddf := ((tokensOf s.input).filterMap Token.ddSymbol).foldl bump s.ddf }

theorem tallied_phases {P : Config.Params} {s : State} (hn : s.n ≤ P.maxInput) (f : State → Result) :
    (andThen (setPhase .lz77 s) fun s => andThen (opLz77 P.maxInput s) fun s => andThen (setPhase .tally s) fun s =>
      andThen (opTally s) f) = f (s.tallied .tally) := by
  have hlz := opLz77_eq (s := { s with phase := .lz77 }) hn
  have htally := opTally_ok { s with phase := .tally, p := s.n, tok := tokensOf s.input } tokensFrom_wf
  rw [setPhase, andThen_ok, hlz, andThen_ok, setPhase, andThen_ok]
  exact (congrArg (andThen · f) htally).trans (andThen_ok _ _)

/-- The state after the builds of the LL and DD codes. -/
def State.tokensBuilt (limiter : List Nat → List Nat → Nat → List Nat) (s : State) : State :=
  { s with phase := .huffDD, node := (builtTree s.ddf).1, live := (builtTree s.ddf).2, u := treeDepths 30 s.ddf
           lllen := builtLengths limiter .ll s.llf, llcode := canonCodes (builtLengths limiter .ll s.llf) 15 s.llcode
           ddlen := builtLengths limiter .dd s.ddf, ddcode := canonCodes (builtLengths limiter .dd s.ddf) 15 s.ddcode }

theorem builds_tokensBuilt {limiter : List Nat → List Nat → Nat → List Nat} (hlim : LimiterConforms limiter) {s : State}
    (hll : s.llf.length = 286) (hdd : s.ddf.length = 30) :
    (andThen (setPhase .huffLL s) fun s => andThen (opHuffBuild limiter .ll s) fun s =>
      andThen (setPhase .huffDD s) (opHuffBuild limiter .dd)) = .ok (s.tokensBuilt limiter) := by
  rw [setPhase, andThen_ok, opHuffBuild_ll hlim, andThen_ok, setPhase, andThen_ok, opHuffBuild_dd hlim,
    State.tokensBuilt]
  · exact hdd
  · exact hll

theorem tokenPhases_block {P : Config.Params} (hP : Conforming P) {s : State} (hn : s.n ≤ P.maxInput)
    (hbits : s.bits = []) (hfreq : ∀ a, s.freq a = List.replicate a.size 0) :
    ∃ t, tokenPhases P s = .ok t ∧ TokenBlock P.limiter s.input t ∧ t.clf = List.replicate 19 0 ∧ t.err = s.err ∧
      t.errcode = s.errcode := by
  have hll : (s.tallied .tally).llf = llTable s.input := by
    rw [llTable, ← show s.llf = List.replicate 286 0 from hfreq .ll, State.tallied]
  have hdd : (s.tallied .tally).ddf = ddTable s.input := by
    rw [ddTable, ← show s.ddf = List.replicate 30 0 from hfreq .dd, State.tallied]
  refine ⟨(s.tallied .tally).tokensBuilt P.limiter, (tallied_phases hn _).trans (builds_tokensBuilt hP.2
    (hll ▸ llTable_length s.input) (hdd ▸ ddTable_length s.input)), ?_, hfreq .cl, rfl, rfl⟩
  exact {
    noBits := hbits
    n := (State.length_input s).symm
    tok := rfl
    lllen := congrArg (builtLengths P.limiter .ll) hll
    ddlen := congrArg (builtLengths P.limiter .dd) hdd
    llcode := ⟨_, rfl⟩
    ddcode := ⟨_, rfl⟩ }

/-- The state after phases 5 and 6. -/
def State.tuplesBuilt (limiter : List Nat → List Nat → Nat → List Nat) (s : State) (R : List RleTuple) : State :=
  { s with phase := .huffCL, hlit := max 257 (usedLength s.lllen), hdist := max 1 (usedLength s.ddlen), rle := R
           ri := R.length, clf := (R.map RleTuple.symbol).foldl bump s.clf
           node := (builtTree ((R.map RleTuple.symbol).foldl bump s.clf)).1
           live := (builtTree ((R.map RleTuple.symbol).foldl bump s.clf)).2
           u := treeDepths 19 ((R.map RleTuple.symbol).foldl bump s.clf)
           cllen := builtLengths limiter .cl ((R.map RleTuple.symbol).foldl bump s.clf)
           clcode := canonCodes (builtLengths limiter .cl ((R.map RleTuple.symbol).foldl bump s.clf)) 7 s.clcode
           hclen := max 4 (usedLength (clOrder.map fun c =>
             (builtLengths limiter .cl ((R.map RleTuple.symbol).foldl bump s.clf)).getD c 0)) }

theorem tuplePhases_tuplesBuilt {P : Config.Params} (hP : Conforming P) {s : State} (hclf : s.clf.length = 19)
    {R : List RleTuple} (hR : R = rleEncode (s.lllen.take (max 257 (usedLength s.lllen)) ++
      s.ddlen.take (max 1 (usedLength s.ddlen)))) (hwf : ∀ x ∈ R, x.wf = true) :
    tuplePhases P s = .ok (s.tuplesBuilt P.limiter R) := by
  have htally : opClTally { s with phase := .huffCL, hlit := max 257 (usedLength s.lllen)
                                   hdist := max 1 (usedLength s.ddlen), rle := R } =
      .ok { s with phase := .huffCL, hlit := max 257 (usedLength s.lllen), hdist := max 1 (usedLength s.ddlen), rle := R
                   ri := R.length, clf := (R.map RleTuple.symbol).foldl bump s.clf } := opClTally_ok _ hwf
  rw [tuplePhases, setPhase, andThen_ok, opSizeHlit, andThen_ok, opSizeHdist, andThen_ok, opClRle, andThen_ok, setPhase,
    andThen_ok]
  simp only [State.lengthVector, ← hR]
  rw [htally, andThen_ok, opHuffBuild_cl hP.2, andThen_ok, opSizeHclen, State.tuplesBuilt]
  exact (length_foldl_bump _ _).trans hclf

/-- Phases 5 and 6 on the tokens' codes. -/
theorem tuplePhases_block {P : Config.Params} (hP : Conforming P) {X : List Byte} {s : State}
    (h : TokenBlock P.limiter X s) (hclf : s.clf = List.replicate 19 0) :
    ∃ t, tuplePhases P s = .ok t ∧ BlockOf P.limiter X t ∧ t.err = s.err ∧ t.errcode = s.errcode := by
  generalize hR : rleEncode (s.lllen.take (max 257 (usedLength s.lllen)) ++
    s.ddlen.take (max 1 (usedLength s.ddlen))) = R
  have hwf : ∀ x ∈ R, x.wf = true := by
    rw [← hR]
    exact (rleEncode_within (mem_lengthVector_le (s := { s with
      hlit := max 257 (usedLength s.lllen), hdist := max 1 (usedLength s.ddlen) })
      (h.llCodeFor hP.2).cap (h.ddCodeFor hP.2).cap)).2
  refine ⟨s.tuplesBuilt P.limiter R,
    tuplePhases_tuplesBuilt hP (by rw [hclf, List.length_replicate]) hR.symm hwf, ?_, rfl, rfl⟩
  have htable : (R.map RleTuple.symbol).foldl bump s.clf = clTable R := by rw [clTable, hclf]
  exact {
    toTokenBlock := { h with }
    cllen := congrArg (builtLengths P.limiter .cl) htable
    clcode := ⟨_, rfl⟩
    hlit := rfl
    hdist := rfl
    hclen := rfl
    rle := hR.symm }

/-- The coding phases on an accepted input make its block (R167, phases 1 to 6). -/
theorem codingPhases_block {P : Config.Params} (hP : Conforming P) {s : State} (hn : s.n ≤ P.maxInput)
    (hbits : s.bits = []) (hfreq : ∀ a, s.freq a = List.replicate a.size 0) :
    ∃ t, codingPhases P s = .ok t ∧ BlockOf P.limiter s.input t ∧ t.err = s.err ∧ t.errcode = s.errcode := by
  obtain ⟨t, htokens, hblock, hclf, herr, hcode⟩ := tokenPhases_block hP hn hbits hfreq
  obtain ⟨u, htuples, hu, herr', hcode'⟩ := tuplePhases_block hP hblock hclf
  exact ⟨u, by rw [codingPhases_eq, htokens, andThen_ok, htuples], hu, herr'.trans herr, hcode'.trans hcode⟩

end Sys2Proof.Machine
end

section
/-! PROOFS. The writing phases for every conforming block, and that the block's bits are a function of the input. -/

namespace Sys2Proof.Machine

/-- FINALIZE on bits that fit `OUT` writes the packed bits, whatever the bound (R94). -/
theorem opFinalize_fits {maxInput : Nat} {s : State} (hfit : (s.nbits + 7) / 8 ≤ Config.outMax maxInput) :
    ∃ out, opFinalize maxInput s = .ok { s with out := out, outLen := (s.nbits + 7) / 8 } ∧
      (List.range ((s.nbits + 7) / 8)).map (Memory.read out) = (bitsToBytes s.bits).map some := by
  obtain ⟨-, out, hwrite, hread, -, -⟩ | ⟨-, hover, -⟩ := writeBytes_cases maxInput 0 (bitsToBytes s.bits) s
  · refine ⟨out, by simp [opFinalize, hwrite], List.ext_getElem (by simp) fun k hk _ => ?_⟩
    have hlen : k < (bitsToBytes s.bits).length := by simpa using hk
    have hbyte := hread k hlen
    rw [List.getElem?_eq_getElem hlen, Nat.zero_add] at hbyte
    simpa using hbyte
  · rw [length_bitsToBytes, Nat.zero_add] at hover
    exact absurd hfit (Nat.not_le.mpr hover)

theorem blockBits_fit {t : State} (h : Coded t) {maxInput : Nat} (hn : t.n ≤ maxInput) :
    ((blockBits t).length + 7) / 8 ≤ Config.outMax maxInput :=
  Nat.le_trans (Nat.div_le_div_right (Nat.add_le_add_right (length_blockBits_le h) 7)) (bytes_fit_outMax hn)

/-- The writing phases on a coded state, for every bound. -/
theorem writingPhases_written {P : Config.Params} {s : State} (h : Coded s) (hn : s.n ≤ P.maxInput) :
    ∃ out, writingPhases P s = .ok (s.written out) ∧
      (s.written out).outBytes = (bitsToBytes (blockBits s)).map some := by
  obtain ⟨out, hfinal, hbytes⟩ := opFinalize_fits (s := { s with
    phase := .finalize, ci := (clOrder.take s.hclen).length, ri := s.nrle, ti := s.ntok, bits := blockBits s })
    (blockBits_fit h hn)
  refine ⟨out, ?_, hbytes⟩
  refine andThen_of_ok rfl <| andThen_of_ok (opWriteHeader_ok _ h.hlitRange h.hdistRange h.hclenRange) <|
    andThen_of_ok rfl <| andThen_of_ok (opWriteCllens_ok _) <| andThen_of_ok rfl <|
    andThen_of_ok (opWriteRle_ok _ h.tuples) <| andThen_of_ok rfl <| andThen_of_ok (opWriteTokens_ok _ h.tokens) <|
    andThen_of_ok rfl <| andThen_of_ok (opWriteEob_ok _ h.endOfBlock) <| andThen_of_ok rfl <|
    (congrArg (opFinalize P.maxInput) ?_).trans hfinal
  simp only [State.emit, h.noBits, List.nil_append]
  rfl

/-- COMPRESS after a START of an accepted length makes the input's block and ends with its bytes written. -/
theorem opCompress_block {P : Config.Params} (hP : Conforming P) {s : State} (h : s.inLen.toNat ≤ P.maxInput) :
    ∃ t u, opCompress P s.start = .ok u ∧ BlockOf P.limiter s.nextInput t ∧ u.busy = false ∧ u.done = true ∧
      u.err = false ∧ u.errcode = .none ∧ u.phase = .done ∧ u.bits = blockBits t ∧
      u.outLen = ((blockBits t).length + 7) / 8 ∧ u.outBytes = (bitsToBytes (blockBits t)).map some := by
  obtain ⟨t, hcoding, hblock, herr, hcode⟩ := codingPhases_block hP (s := s.start) h rfl fun a => by cases a <;> rfl
  have hn : t.n ≤ P.maxInput := by
    rw [hblock.n, State.length_input]
    exact h
  obtain ⟨out, hwriting, hbytes⟩ := writingPhases_written (hblock.coded hP.2) hn
  have hsize : sizeCheck P.maxInput s.start = .ok s.start := if_neg (Nat.not_lt.mpr h)
  exact ⟨t, (t.written out).complete, andThen_of_ok hsize <| andThen_of_ok hcoding <| andThen_of_ok hwriting rfl, hblock,
    rfl, rfl, herr, hcode, rfl, rfl, rfl, hbytes⟩

/-- Lengths that end in zeros: the coded symbols have the codes of the lengths without these, whatever the code tables
held before. -/
theorem nextCode_append_zeros (L : List Nat) (k l : Nat) : nextCode (L ++ List.replicate k 0) l = nextCode L l := by
  induction l using nextCode.induct with
  | case1 => rfl
  | case2 => rfl
  | case3 l ih =>
    have hcount : (List.replicate k 0).count (l + 1) = 0 := by
      rw [List.count_replicate]
      rfl
    simp only [nextCode, ih, List.count_append, hcount, Nat.add_zero]

theorem getD_append_zeros (L : List Nat) (k x : Nat) : (L ++ List.replicate k 0).getD x 0 = L.getD x 0 := by
  rcases Nat.lt_or_ge x L.length with hx | hx
  · rw [List.getD_append _ _ _ _ hx]
  · rw [List.getD_append_right _ _ _ _ hx, getD_replicate_zero, List.getD_eq_default _ _ hx]

theorem codeBits_canonCodes {L old old' : List Nat} {k M : Nat} (hcap : ∀ l ∈ L, l ≤ M) (x : Nat) :
    codeBits (L ++ List.replicate k 0) (canonCodes (L ++ List.replicate k 0) M old) x =
      codeBits L (canonCodes L M old') x := by
  have hcap' : ∀ l ∈ L ++ List.replicate k 0, l ≤ M := by
    intro l hl
    rcases List.mem_append.mp hl with hl | hl
    · exact hcap l hl
    · rw [List.eq_of_mem_replicate hl]
      exact Nat.zero_le M
  by_cases hx : L.getD x 0 = 0
  · simp only [codeBits, getD_append_zeros, hx, msbBits]
  · have hx' : (L ++ List.replicate k 0).getD x 0 ≠ 0 := by rwa [getD_append_zeros]
    have hlt := lt_length_of_getD_ne_zero hx
    simp only [codeBits, (canonCodes_spec hcap').2 x hx', (canonCodes_spec hcap).2 x hx, getD_append_zeros,
      nextCode_append_zeros, List.take_append_of_le_length hlt.le]

/-- The bits of a block are a function of the limiter and the input. -/
theorem blockBits_eq {limiter : List Nat → List Nat → Nat → List Nat} (hlim : LimiterConforms limiter) {X : List Byte}
    {t t' : State} (h : BlockOf limiter X t) (h' : BlockOf limiter X t') : blockBits t = blockBits t' := by
  have hll : t.lllen = t'.lllen := h.lllen.trans h'.lllen.symm
  have hdd : t.ddlen = t'.ddlen := h.ddlen.trans h'.ddlen.symm
  have hhlit : t.hlit = t'.hlit := by rw [h.hlit, h'.hlit, hll]
  have hhdist : t.hdist = t'.hdist := by rw [h.hdist, h'.hdist, hdd]
  have hrle : t.rle = t'.rle := by rw [h.rle, h'.rle, State.lengthVector, State.lengthVector, hll, hdd, hhlit, hhdist]
  have hcl : t.cllen = t'.cllen := by rw [h.cllen, h'.cllen, hrle]
  have hhclen : t.hclen = t'.hclen := by rw [h.hclen, h'.hclen, hcl]
  have hcodes {L old old' : List Nat} {M : Nat} (hcap : ∀ l ∈ L, l ≤ M) :
      codeBits L (canonCodes L M old) = codeBits L (canonCodes L M old') :=
    funext fun x => by simpa using codeBits_canonCodes (k := 0) (old := old) (old' := old') hcap x
  obtain ⟨llold, hllcode⟩ := h.llcode
  obtain ⟨ddold, hddcode⟩ := h.ddcode
  obtain ⟨clold, hclcode⟩ := h.clcode
  obtain ⟨llold', hllcode'⟩ := h'.llcode
  obtain ⟨ddold', hddcode'⟩ := h'.ddcode
  obtain ⟨clold', hclcode'⟩ := h'.clcode
  have hllbits : codeBits t.lllen t.llcode = codeBits t'.lllen t'.llcode := by
    rw [hllcode, hllcode', hll]
    exact hcodes (h'.llCodeFor hlim).cap
  have hddbits : codeBits t.ddlen t.ddcode = codeBits t'.ddlen t'.ddcode := by
    rw [hddcode, hddcode', hdd]
    exact hcodes (h'.ddCodeFor hlim).cap
  have hclbits : codeBits t.cllen t.clcode = codeBits t'.cllen t'.clcode := by
    rw [hclcode, hclcode', hcl]
    exact hcodes (h'.clCodeFor hlim).cap
  have htuple : tupleBits t = tupleBits t' := funext fun x => by rw [tupleBits, tupleBits, hclbits]
  have htoken : tokenBits t = tokenBits t' := funext fun x => by
    cases x with
    | literal b => rw [tokenBits, tokenBits, hllbits]
    | backRef l d => simp only [tokenBits, lengthBits, distBits, hllbits, hddbits]
  rw [blockBits, blockBits, hhlit, hhdist, hhclen, hcl, hrle, htuple, h.tok, h'.tok, htoken, hllbits]

/-- Settles O20: an oversized input ends both runs alike, and an accepted one makes one block. -/
theorem outputDependsOnTheInputOnly : Obligations.OutputDependsOnTheInputOnly := by
  intro s t s' hlen hbytes hs
  have hinput : s.nextInput = t.nextInput := by
    rw [State.nextInput, State.nextInput, ← hlen]
    exact List.map_congr_left fun k hk => hbytes k (List.mem_range.mp hk)
  rcases Nat.lt_or_ge params.maxInput s.inLen.toNat with hlarge | hfit
  · have hend {r : State} (h : params.maxInput < r.inLen.toNat) :
        exec .compress r.start = .next (r.start.errorEntry .inputTooLarge) :=
      congrArg finish (opCompress_tooLarge (P := params) (s := r.start) h)
    obtain rfl := Host.Outcome.next.inj ((hend hlarge).symm.trans hs)
    exact ⟨_, hend (hlen ▸ hlarge), rfl, rfl, rfl, rfl, rfl⟩
  · obtain ⟨ts, us, hus, hts, -, hdone, herr, hcode, -, -, hout, hbytes⟩ := opCompress_block params_conforming hfit
    obtain ⟨tt, ut, hut, htt, -, hdone', herr', hcode', -, -, hout', hbytes'⟩ :=
      opCompress_block params_conforming (s := t) (hlen ▸ hfit)
    rw [hinput] at hts
    have hblock := blockBits_eq params_conforming.2 htt hts
    obtain rfl : us = s' := Host.Outcome.next.inj ((congrArg finish hus).symm.trans hs)
    exact ⟨ut, congrArg finish hut, hdone'.trans hdone.symm, herr'.trans herr.symm, hcode'.trans hcode.symm,
      by rw [hout', hout, hblock], by rw [hbytes', hbytes, hblock]⟩

end Sys2Proof.Machine
end

section
/-! PROOFS. Reading the block back (R8, R80): each section of the block under the code books that a reader derives from
the sections before it. -/

namespace Sys2Proof.Machine

/-- A reader's code book for an alphabet agrees with the lengths and codes of the writer on every coded symbol. -/
structure ReadsCode (book : CodeBook) (a : Alphabet) (L C : List Nat) : Prop where
  prefixFree : PrefixFree (book.lens a) (book.codes a)
  cap : ∀ l ∈ book.lens a, l ≤ 15
  lengths : ∀ x, (book.lens a).getD x 0 = L.getD x 0
  bits : ∀ x, codeBits (book.lens a) (book.codes a) x = codeBits L C x

theorem ReadsCode.decode {book : CodeBook} {a : Alphabet} {L C : List Nat} (h : ReadsCode book a L C) {i : Instr}
    {x v n : Nat} (hx : L.getD x 0 ≠ 0) (helem : i.element? = some (.coded a x v n)) (hwf : i.wf = true)
    (rest : List Bit) :
    decodeElement (codedPosition a) book (codeBits L C x ++ (lsbBits v n ++ rest)) = .ok (i, rest) := by
  rw [← h.bits x]
  exact decodeElement_coded h.prefixFree h.cap (by rwa [h.lengths x]) helem hwf rest

theorem kraft_append_zeros (e : Nat) (L : List Nat) (k : Nat) : kraft e (L ++ List.replicate k 0) = kraft e L := by
  rw [kraft_eq_usedSum, kraft_eq_usedSum, usedSum_append, usedSum_replicate_zero, Nat.add_zero]

/-- A reader that builds the canonical codes of the lengths without their last zeros. -/
theorem readsCode_canonCodes {book : CodeBook} {a : Alphabet} {L old : List Nat} {k M : Nat} (hM : M ≤ 15)
    (hcap : ∀ l ∈ L, l ≤ M) (hroom : KraftAtMostOne (L ++ List.replicate k 0)) (hlens : book.lens a = L)
    (hcodes : book.codes a = canonCodes L M []) :
    ReadsCode book a (L ++ List.replicate k 0) (canonCodes (L ++ List.replicate k 0) M old) := by
  subst hlens
  have hroom' : KraftAtMostOne (book.lens a) := by
    intro e he
    rw [← kraft_append_zeros e (book.lens a) k]
    refine hroom e fun l hl => ?_
    rcases List.mem_append.mp hl with hl | hl
    · exact he l hl
    · rw [List.eq_of_mem_replicate hl]
      exact Nat.zero_le e
  exact {
    prefixFree := hcodes ▸ canonCodes_prefixFree hroom' hcap
    cap := fun l hl => Nat.le_trans (hcap l hl) hM
    lengths := fun x => (getD_append_zeros _ k x).symm
    bits := fun x => by rw [hcodes]; exact (codeBits_canonCodes hcap x).symm }

theorem inflateCllens_fields {ds : List Nat} (hds : ∀ d ∈ ds, d ≤ 7) (rest : List Bit) :
    inflateCllens ds.length (ds.flatMap (fun d => lsbBits d 3) ++ rest) = some (ds, rest) := by
  induction ds with
  | nil => rfl
  | cons d ds ih =>
    have hd : (BitVec.ofNat 3 d).toNat = d := Nat.mod_eq_of_lt (Nat.lt_succ_of_le (hds d List.mem_cons_self))
    have hfield := decodeElement_field (k := ⟨[], [], [], [], [], []⟩) (i := .cllenField (BitVec.ofNat 3 d)) rfl rfl rfl
      (ds.flatMap (fun d => lsbBits d 3) ++ rest)
    rw [hd] at hfield
    rw [List.flatMap_cons, List.append_assoc, List.length_cons]
    simp only [inflateCllens, hfield, ih fun x hx => hds x (List.mem_cons_of_mem d hx), Option.map_some, hd]

theorem zip_take_map {α β : Type} (f : α → β) (l : List α) (k : Nat) :
    l.zip ((l.take k).map f) = (l.take k).map fun c => (c, f c) := by
  induction l generalizing k with
  | nil => simp
  | cons x l ih =>
    cases k with
    | zero => simp
    | succ k => rw [List.take_succ_cons, List.map_cons, List.zip_cons_cons, ih, List.map_cons]

theorem getD_writeLengths_map {xs : List Nat} {f : Nat → Nat} {x : Nat} {L : List Nat} (hx : x ∈ xs)
    (hlt : x < L.length) : (writeLengths (xs.map fun c => (c, f c)) L).getD x 0 = f x := by
  induction xs generalizing L with
  | nil => simp at hx
  | cons y xs ih =>
    rw [List.map_cons, writeLengths_cons]
    by_cases hmem : x ∈ xs
    · exact ih hmem (by simpa using hlt)
    · obtain rfl : x = y := by simpa [hmem] using hx
      rw [getD_writeLengths_of_notMem (by simpa using hmem), getD_set_self _ hlt]

theorem getD_eq_zero_of_usedLength_le {L : List Nat} {k : Nat} (h : usedLength L ≤ k) : L.getD k 0 = 0 := by
  induction L generalizing k with
  | nil => simp
  | cons x xs ih =>
    rw [usedLength_cons] at h
    cases k with
    | zero =>
      by_contra hne
      have hx : x ≠ 0 := hne
      rw [if_neg hx] at h
      split at h <;> omega
    | succ k =>
      refine ih ?_
      split at h
      · omega
      · omega

/-- The meta code lengths up to the last used position in the order are all of them. -/
theorem metaLengths_take {L : List Nat} (hlen : L.length = 19) {k : Nat}
    (hk : usedLength (clOrder.map fun c => L.getD c 0) ≤ k) :
    metaLengths ((clOrder.take k).map fun c => L.getD c 0) = L := by
  have hzip : metaLengths ((clOrder.take k).map fun c => L.getD c 0) =
      writeLengths ((clOrder.take k).map fun c => (c, L.getD c 0)) (List.replicate 19 0) := by
    rw [metaLengths, zip_take_map, writeLengths]
  have hall : ∀ x < 19, ∃ j < 19, clOrder.getD j 0 = x := by decide
  rw [hzip]
  refine List.ext_getElem (by simp [hlen]) fun x hx hx' => ?_
  have hx19 : x < 19 := hlen ▸ hx'
  rw [← List.getD_eq_getElem _ 0 hx, ← List.getD_eq_getElem _ 0 hx']
  by_cases hmem : x ∈ clOrder.take k
  · exact getD_writeLengths_map hmem (by simpa using hx19)
  · obtain ⟨j, hj, rfl⟩ := hall x hx19
    have hkj : k ≤ j := by
      by_contra hlt
      refine hmem (List.mem_take_iff_getElem.mpr ⟨j, ?_, (List.getD_eq_getElem _ _ hj).symm⟩)
      have hj' : j < clOrder.length := hj
      omega
    have hfst : ((clOrder.take k).map fun c => (c, L.getD c 0)).map Prod.fst = clOrder.take k := by
      rw [List.map_map]
      exact List.map_id _
    rw [getD_writeLengths_of_notMem (by rwa [hfst]), getD_replicate_zero, ← getD_map_clOrder _ hj,
      getD_eq_zero_of_usedLength_le (Nat.le_trans hk hkj)]

theorem length_lt_expandTuple (V : List Nat) (t : RleTuple) : V.length < (expandTuple V t).length := by
  unfold expandTuple
  split_ifs <;> simp

theorem length_le_foldl_expandTuple (R : List RleTuple) (V : List Nat) :
    V.length ≤ (R.foldl expandTuple V).length := by
  induction R generalizing V with
  | nil => exact Nat.le_refl _
  | cons t R ih => exact Nat.le_trans (length_lt_expandTuple V t).le (ih _)

theorem inflateLengths_step {book : CodeBook} {want k : Nat} {V : List Nat} {bs rest : List Bit} {i : Instr}
    {t : RleTuple} (hlt : V.length < want) (hdecode : decodeElement .codeLength book bs = .ok (i, rest))
    (helem : i.element? = some (.coded .cl t.symbol t.value t.extra)) (h16 : V ≠ [] ∨ t.symbol ≠ 16) :
    inflateLengths book want (k + 1) V bs = inflateLengths book want k (expandTuple V t) rest := by
  rw [inflateLengths, if_neg (Nat.ne_of_lt hlt), if_neg (Nat.not_lt.mpr hlt.le), hdecode]
  simp only [helem]
  obtain ⟨x, n, v⟩ := t
  split
  next heq =>
    obtain ⟨-, rfl, rfl, rfl⟩ := Element.coded.inj (Option.some.inj heq)
    rw [if_neg (h16.resolve_right fun h => h rfl)]
  next heq =>
    obtain ⟨-, rfl, rfl, rfl⟩ := Element.coded.inj (Option.some.inj heq)
    rfl
  next hnone => exact absurd rfl (hnone _ _ _)

/-- The code-length section spells the lengths its tuples expand to (R149). -/
theorem inflateLengths_tuples {book : CodeBook} {s : State} (hread : ReadsCode book .cl s.cllen s.clcode) {want k : Nat}
    {R : List RleTuple} (hR : ∀ t ∈ R, t.wf = true ∧ s.cllen.getD t.symbol 0 ≠ 0) {V : List Nat}
    (hstart : V ≠ [] ∨ ∀ t ∈ R.head?, t.symbol ≠ 16) (hwant : (R.foldl expandTuple V).length = want) (hk : R.length < k)
    (rest : List Bit) :
    inflateLengths book want k V (R.flatMap (tupleBits s) ++ rest) = some (R.foldl expandTuple V, rest) := by
  induction R generalizing V k with
  | nil =>
    obtain ⟨k, rfl⟩ := Nat.exists_eq_succ_of_ne_zero (Nat.ne_of_gt hk)
    rw [inflateLengths, if_pos (show V.length = want from hwant)]
    rfl
  | cons t R ih =>
    obtain ⟨k, rfl⟩ := Nat.exists_eq_succ_of_ne_zero (Nat.ne_of_gt (Nat.zero_lt_of_lt hk))
    obtain ⟨hwf, hcoded⟩ := hR t List.mem_cons_self
    obtain ⟨i, hi, helem⟩ := tuple_element hwf
    have hlonger := length_lt_expandTuple V t
    have hlt : V.length < want := by
      rw [← hwant, List.foldl_cons]
      exact Nat.lt_of_lt_of_le hlonger (length_le_foldl_expandTuple R _)
    rw [List.flatMap_cons, List.append_assoc, tupleBits, List.append_assoc,
      inflateLengths_step hlt (hread.decode hcoded helem hi _) helem (hstart.imp id fun h => h t rfl)]
    exact ih (fun u hu => hR u (List.mem_cons_of_mem t hu))
      (.inl (List.ne_nil_of_length_pos (Nat.zero_lt_of_lt hlonger))) hwant (Nat.lt_of_succ_lt_succ hk)

theorem rangeValue_lengthTable {l : Nat} {c : Lookup} (h : lengthLookup l = some c) :
    rangeValue lengthTable c.code c.value = some l := by
  have hfind : ∀ r ∈ lengthTable, lengthTable.find? (fun q => q.code == r.code) = some r := by decide
  obtain ⟨r, hr, hbase, -, rfl⟩ := lookupIn_row h
  rw [rangeValue, hfind r hr, Option.map_some, Nat.add_sub_cancel' hbase]

theorem lengthLookup_code_ge {l : Nat} {c : Lookup} (h : lengthLookup l = some c) : 257 ≤ c.code := by
  have hcode : ∀ r ∈ lengthTable, 257 ≤ r.code := by decide
  obtain ⟨r, hr, -, -, rfl⟩ := lookupIn_row h
  exact hcode r hr

theorem rangeValue_distTable {d : Nat} {e : Lookup} (h : distLookup d = some e) :
    rangeValue distTable e.code e.value = some d := by
  have hfind : ∀ r ∈ distTable, distTable.find? (fun q => q.code == r.code) = some r := by decide
  obtain ⟨r, hr, hbase, -, rfl⟩ := lookupIn_row h
  rw [rangeValue, hfind r hr, Option.map_some, Nat.add_sub_cancel' hbase]

theorem inflateTokens_match {book : CodeBook} {k l d c v n e w m : Nat} {E : List Byte} {bs rest rest' : List Bit}
    {i j : Instr} (hlength : decodeElement .token book bs = .ok (i, rest)) (hi : i.element? = some (.coded .ll c v n))
    (hc : 257 ≤ c) (hdist : decodeElement .distance book rest = .ok (j, rest'))
    (hj : j.element? = some (.coded .dd e w m)) (hl : rangeValue lengthTable c v = some l)
    (hd : rangeValue distTable e w = some d) (hback : d ≤ E.length) :
    inflateTokens book (k + 1) E bs = inflateTokens book k (copyBack d l E) rest' := by
  rw [inflateTokens, hlength]
  split
  next b _ heq =>
    obtain ⟨rfl, -⟩ := Prod.mk.inj (Except.ok.inj heq)
    obtain ⟨-, rfl, -, -⟩ := Element.coded.inj (Option.some.inj hi)
    have := b.isLt
    omega
  next heq =>
    obtain ⟨rfl, -⟩ := Prod.mk.inj (Except.ok.inj heq)
    obtain ⟨-, rfl, -, -⟩ := Element.coded.inj (Option.some.inj hi)
    omega
  next heq =>
    obtain ⟨rfl, rfl⟩ := Prod.mk.inj (Except.ok.inj heq)
    simp only [hi, hdist, hj, hl, hd, hback, if_true]
  next heq => cases heq

section

variable {book : CodeBook} {s : State} (hll : ReadsCode book .ll s.lllen s.llcode)
  (hdd : ReadsCode book .dd s.ddlen s.ddcode)

include hll hdd in
/-- A token's bits read back as the token (R72 to R75). -/
theorem inflateTokens_token {x : Token} (hwf : x.wf = true) (hcoded : TokenCoded s x) {E : List Byte}
    (hback : ∀ l d, x = .backRef l d → d ≤ E.length) (k : Nat) (rest : List Bit) :
    inflateTokens book (k + 1) E (tokenBits s x ++ rest) = inflateTokens book k (expandToken E x) rest := by
  obtain ⟨hcodedLL, hcodedDD⟩ := hcoded
  rcases Token.wf_cases hwf with ⟨b, rfl⟩ | ⟨l, d, c, e, rfl, -, hc, he⟩
  · have hread : decodeElement .token book (tokenBits s (.literal b) ++ rest) = .ok (.literal b, rest) :=
      hll.decode (i := .literal b) (hcodedLL _ rfl) rfl rfl rest
    simp only [inflateTokens, hread, expandToken]
  · obtain ⟨i, hi, helem⟩ := lengthLookup_element hc
    obtain ⟨j, hj, helem'⟩ := distLookup_element he
    simp only [tokenBits, hc, he, lengthBits, distBits, List.append_assoc]
    refine inflateTokens_match (hll.decode (hcodedLL _ (by simp [Token.llSymbol, hc])) helem hi _) helem ?_
      (hdd.decode (hcodedDD _ (by simp [Token.ddSymbol, he])) helem' hj _) helem' (rangeValue_lengthTable hc)
      (rangeValue_distTable he) (hback l d rfl)
    exact lengthLookup_code_ge hc

include hll in
theorem inflateTokens_eob (hcoded : s.lllen.getD 256 0 ≠ 0) (k : Nat) (E : List Byte) (rest : List Bit) :
    inflateTokens book (k + 1) E (codeBits s.lllen s.llcode 256 ++ rest) = some (E, rest) := by
  have hread : decodeElement .token book (codeBits s.lllen s.llcode 256 ++ rest) = .ok (.eob, rest) :=
    hll.decode (i := .eob) hcoded rfl rfl rest
  simp only [inflateTokens, hread]

theorem nextToken_dist_le {S : List Byte} {p l d : Nat} (h : nextToken S p = .backRef l d) : d ≤ p := by
  obtain ⟨hit, hs, h3, hbest⟩ | ⟨hs, -⟩ := lzSearch_cases S p
  · simp only [nextToken, hs] at h
    obtain ⟨-, rfl⟩ := Token.backRef.inj h
    exact Nat.le_trans (hbest.attained (Nat.ne_of_gt (Nat.zero_lt_of_lt h3))).2.1 (Nat.min_le_left p _)
  · simp only [nextToken, hs] at h
    cases h

include hll hdd in
/-- The token section expands to the input from the cursor on (R116). -/
theorem inflateTokens_tokensFrom {S : List Byte} {k p fuel : Nat} (hp : p ≤ S.length) (hk : S.length ≤ p + k)
    (hcoded : ∀ x ∈ tokensFrom S k p, TokenCoded s x) (heob : s.lllen.getD 256 0 ≠ 0)
    (hfuel : (tokensFrom S k p).length < fuel) (rest : List Bit) :
    inflateTokens book fuel (S.take p) ((tokensFrom S k p).flatMap (tokenBits s) ++
      (codeBits s.lllen s.llcode 256 ++ rest)) = some (S, rest) := by
  induction k generalizing p fuel with
  | zero =>
    obtain ⟨fuel, rfl⟩ := Nat.exists_eq_succ_of_ne_zero (Nat.ne_of_gt (Nat.zero_lt_of_lt hfuel))
    rw [List.take_of_length_le (show S.length ≤ p from hk)]
    exact inflateTokens_eob hll heob fuel S rest
  | succ k ih =>
    obtain ⟨fuel, rfl⟩ := Nat.exists_eq_succ_of_ne_zero (Nat.ne_of_gt (Nat.zero_lt_of_lt hfuel))
    rcases Nat.lt_or_ge p S.length with hlt | hge
    · obtain ⟨hwf, h1, -, hle, hexpand⟩ := nextToken_spec hlt
      rw [tokensFrom_of_lt hlt] at hcoded hfuel ⊢
      rw [List.flatMap_cons, List.append_assoc, inflateTokens_token hll hdd hwf (hcoded _ List.mem_cons_self)
        fun l d h => by rw [List.length_take, Nat.min_eq_left hp]; exact nextToken_dist_le h, hexpand]
      exact ih hle (by omega) (fun x hx => hcoded x (List.mem_cons_of_mem _ hx)) (Nat.lt_of_succ_lt_succ hfuel)
    · rw [tokensFrom_of_ge hge, List.take_of_length_le hge]
      exact inflateTokens_eob hll heob fuel S rest

end

end Sys2Proof.Machine
end

section
/-! PROOFS. The round trip (R8): the reader of a block finds the sizes, the lengths and the tokens that the coding phases
made, and so the input. -/

namespace Sys2Proof.Machine

theorem take_append_zeros {L : List Nat} {k : Nat} (h : usedLength L ≤ k) :
    L.take k ++ List.replicate (L.length - k) 0 = L := by
  refine List.ext_getElem (by simp; omega) fun x hx hx' => ?_
  rcases Nat.lt_or_ge x k with hlt | hge
  · rw [List.getElem_append_left (by rw [List.length_take]; omega), List.getElem_take]
  · have hzero := getD_eq_zero_of_usedLength_le (Nat.le_trans h hge)
    rw [List.getD_eq_getElem _ _ hx'] at hzero
    rw [List.getElem_append_right (by rw [List.length_take]; omega), List.getElem_replicate, hzero]

theorem length_le_length_flatMap {α : Type} {xs : List α} {f : α → List Bit} (h : ∀ x ∈ xs, 1 ≤ (f x).length) :
    xs.length ≤ (xs.flatMap f).length := by
  induction xs with
  | nil => exact Nat.le_refl _
  | cons x xs ih =>
    have h1 := h x List.mem_cons_self
    have hrest := ih fun y hy => h y (List.mem_cons_of_mem x hy)
    rw [List.flatMap_cons, List.length_append, List.length_cons]
    omega

theorem one_le_length_tupleBits {s : State} {t : RleTuple} (h : s.cllen.getD t.symbol 0 ≠ 0) :
    1 ≤ (tupleBits s t).length := by
  rw [tupleBits, List.length_append, length_codeBits]
  omega

theorem one_le_length_tokenBits {s : State} {x : Token} (hwf : x.wf = true) (h : TokenCoded s x) :
    1 ≤ (tokenBits s x).length := by
  rcases Token.wf_cases hwf with ⟨b, rfl⟩ | ⟨l, d, c, e, rfl, -, hc, he⟩
  · have := h.1 _ rfl
    rw [tokenBits, length_codeBits]
    omega
  · have := h.1 c.code (by simp [Token.llSymbol, hc])
    simp only [tokenBits, hc, he, lengthBits, List.length_append, length_codeBits]
    omega

section

variable {limiter : List Nat → List Nat → Nat → List Nat} {X : List Byte} {t : State}

/-- The book a reader builds from the meta code lengths. -/
def metaBook (t : State) : CodeBook := ⟨[], [], [], [], t.cllen, canonCodes t.cllen 7 []⟩

/-- The book a reader builds from the two length vectors. -/
def tokenBook (t : State) : CodeBook :=
  ⟨t.lllen.take t.hlit, canonCodes (t.lllen.take t.hlit) 15 [], t.ddlen.take t.hdist,
    canonCodes (t.ddlen.take t.hdist) 15 [], [], []⟩

theorem BlockOf.readsMeta (h : BlockOf limiter X t) (hlim : LimiterConforms limiter) :
    ReadsCode (metaBook t) .cl t.cllen t.clcode := by
  have hcl := h.clCodeFor hlim
  obtain ⟨old, hold⟩ := h.clcode
  have hread := readsCode_canonCodes (book := metaBook t) (a := .cl) (k := 0) (M := 7) (old := old) (by decide) hcl.cap
    (by simpa using hcl.room) rfl rfl
  rw [hold]
  simpa using hread

theorem BlockOf.readsLL (h : BlockOf limiter X t) (hlim : LimiterConforms limiter) :
    ReadsCode (tokenBook t) .ll t.lllen t.llcode := by
  have hll := h.llCodeFor hlim
  obtain ⟨old, hold⟩ := h.llcode
  have htake := take_append_zeros (L := t.lllen) (k := t.hlit) (by rw [h.hlit]; exact Nat.le_max_right _ _)
  have hread := readsCode_canonCodes (book := tokenBook t) (a := .ll) (k := t.lllen.length - t.hlit) (old := old)
    (L := t.lllen.take t.hlit) (Nat.le_refl 15) (fun l hl => hll.cap l (List.mem_of_mem_take hl))
    (by rw [htake]; exact hll.room) rfl rfl
  rwa [htake, ← hold] at hread

theorem BlockOf.readsDD (h : BlockOf limiter X t) (hlim : LimiterConforms limiter) :
    ReadsCode (tokenBook t) .dd t.ddlen t.ddcode := by
  have hdd := h.ddCodeFor hlim
  obtain ⟨old, hold⟩ := h.ddcode
  have htake := take_append_zeros (L := t.ddlen) (k := t.hdist) (by rw [h.hdist]; exact Nat.le_max_right _ _)
  have hread := readsCode_canonCodes (book := tokenBook t) (a := .dd) (k := t.ddlen.length - t.hdist) (old := old)
    (L := t.ddlen.take t.hdist) (Nat.le_refl 15) (fun l hl => hdd.cap l (List.mem_of_mem_take hl))
    (by rw [htake]; exact hdd.room) rfl rfl
  rwa [htake, ← hold] at hread

/-- The meta code lengths in their order in the stream (R66). -/
def cllenFields (t : State) : List Nat := (clOrder.take t.hclen).map fun c => t.cllen.getD c 0

theorem BlockOf.metaLengths_cllenFields (h : BlockOf limiter X t) (hlim : LimiterConforms limiter) :
    metaLengths (cllenFields t) = t.cllen :=
  metaLengths_take (h.clCodeFor hlim).size (by rw [h.hclen]; exact Nat.le_max_right _ _)

theorem BlockOf.length_cllenFields (h : BlockOf limiter X t) (hlim : LimiterConforms limiter) :
    (cllenFields t).length = t.hclen := by
  have := (h.coded hlim).hclenRange.2
  rw [cllenFields, List.length_map, List.length_take]
  exact Nat.min_eq_left this

theorem BlockOf.inflateCllens (h : BlockOf limiter X t) (hlim : LimiterConforms limiter) (rest : List Bit) :
    inflateCllens t.hclen ((clOrder.take t.hclen).flatMap (fun c => lsbBits (t.cllen.getD c 0) 3) ++ rest) =
      some (cllenFields t, rest) := by
  have hread := inflateCllens_fields (ds := cllenFields t) (fun d hd => ?_) rest
  · rwa [h.length_cllenFields hlim, cllenFields, List.flatMap_map] at hread
  · obtain ⟨c, -, rfl⟩ := List.mem_map.mp hd
    exact getD_le (h.clCodeFor hlim).cap c

theorem BlockOf.length_lengthVector (h : BlockOf limiter X t) (hlim : LimiterConforms limiter) :
    (t.lllen.take t.hlit).length = t.hlit ∧ (t.ddlen.take t.hdist).length = t.hdist := by
  have hcoded := h.coded hlim
  have hll : t.lllen.length = 286 := (h.llCodeFor hlim).size
  have hdd : t.ddlen.length = 30 := (h.ddCodeFor hlim).size
  have := hcoded.hlitRange
  have := hcoded.hdistRange
  rw [List.length_take, List.length_take]
  omega

theorem BlockOf.inflateLengths (h : BlockOf limiter X t) (hlim : LimiterConforms limiter) (rest : List Bit) :
    inflateLengths (metaBook t) (t.hlit + t.hdist) ((t.rle.flatMap (tupleBits t) ++ rest).length + 1) []
      (t.rle.flatMap (tupleBits t) ++ rest) = some (t.lengthVector, rest) := by
  have hcoded := h.coded hlim
  have hcap := h.lengthVector_le hlim
  have hexpand : t.rle.foldl expandTuple [] = t.lengthVector := by
    rw [h.rle]
    exact expandRle_rleEncode hcap
  obtain ⟨hll, hdd⟩ := h.length_lengthVector hlim
  have hfuel := length_le_length_flatMap (f := tupleBits t) fun x hx => one_le_length_tupleBits (hcoded.tuples x hx).2
  rw [inflateLengths_tuples (h.readsMeta hlim) hcoded.tuples (.inr ?_) ?_ ?_, hexpand]
  · rw [h.rle, rleEncode]
    exact (rleLoop_repeats _ hcap).1
  · rw [hexpand, State.lengthVector, List.length_append, hll, hdd]
  · rw [List.length_append]
    omega

theorem BlockOf.inflateTokens (h : BlockOf limiter X t) (hlim : LimiterConforms limiter) (rest : List Bit) :
    inflateTokens (tokenBook t) ((t.tok.flatMap (tokenBits t) ++ (codeBits t.lllen t.llcode 256 ++ rest)).length + 1) []
      (t.tok.flatMap (tokenBits t) ++ (codeBits t.lllen t.llcode 256 ++ rest)) = some (X, rest) := by
  have hcoded := h.coded hlim
  have hfuel := length_le_length_flatMap (f := tokenBits t) fun x hx =>
    one_le_length_tokenBits (hcoded.tokens x hx).1 (hcoded.tokens x hx).2
  have htokens : ∀ x ∈ tokensOf X, TokenCoded t x := fun x hx => (hcoded.tokens x (h.tok ▸ hx)).2
  have hread := fun fuel hlt => inflateTokens_tokensFrom (h.readsLL hlim) (h.readsDD hlim) (S := X) (k := X.length)
    (p := 0) (fuel := fuel) (Nat.zero_le _) (by omega) htokens hcoded.endOfBlock hlt rest
  rw [List.take_zero, ← tokensOf, ← h.tok] at hread
  refine hread _ ?_
  rw [List.length_append]
  omega

/-- The bits of a block and its padding, section by section. -/
theorem blockBits_append (t : State) (pad : List Bit) : blockBits t ++ pad =
    lsbBits 1 1 ++ (lsbBits 2 2 ++ (lsbBits (t.hlit - 257) 5 ++ (lsbBits (t.hdist - 1) 5 ++ (lsbBits (t.hclen - 4) 4 ++
      ((clOrder.take t.hclen).flatMap (fun c => lsbBits (t.cllen.getD c 0) 3) ++ (t.rle.flatMap (tupleBits t) ++
        (t.tok.flatMap (tokenBits t) ++ (codeBits t.lllen t.llcode 256 ++ pad)))))))) := by
  simp only [blockBits, List.append_assoc]
  rfl

theorem BlockOf.inflate (h : BlockOf limiter X t) (hlim : LimiterConforms limiter) :
    inflate (bitsToBytes (blockBits t)) = some X := by
  have hcoded := h.coded hlim
  obtain ⟨hlit1, hlit2⟩ := hcoded.hlitRange
  obtain ⟨hdist1, hdist2⟩ := hcoded.hdistRange
  obtain ⟨hclen1, hclen2⟩ := hcoded.hclenRange
  have ha : (BitVec.ofNat 5 (t.hlit - 257)).toNat = t.hlit - 257 := Nat.mod_eq_of_lt (by omega)
  have hb : (BitVec.ofNat 5 (t.hdist - 1)).toNat = t.hdist - 1 := Nat.mod_eq_of_lt (by omega)
  have hc : (BitVec.ofNat 4 (t.hclen - 4)).toNat = t.hclen - 4 := Nat.mod_eq_of_lt (by omega)
  have field {i : Instr} {p : Position} {v n : Nat} (helem : i.element? = some (.field v n)) (hwf : i.wf = true)
      (hp : positionOf i = some p) (rest : List Bit) :=
    decodeElement_field (k := ⟨[], [], [], [], [], []⟩) helem hwf hp rest
  have hhlit (rest : List Bit) := field (i := .hlit (BitVec.ofNat 5 (t.hlit - 257))) rfl
    (by simp only [Instr.wf, ha, decide_eq_true_eq]; omega) rfl rest
  have hhdist (rest : List Bit) := field (i := .hdist (BitVec.ofNat 5 (t.hdist - 1))) rfl
    (by simp only [Instr.wf, hb, decide_eq_true_eq]; omega) rfl rest
  have hhclen (rest : List Bit) := field (i := .hclen (BitVec.ofNat 4 (t.hclen - 4))) rfl rfl rfl rest
  rw [ha] at hhlit
  rw [hb] at hhdist
  rw [hc] at hhclen
  have hpad : (padBits (blockBits t).length).length < 8 ∧ (padBits (blockBits t).length).all (· == false) = true := by
    simp [padBits]
    omega
  obtain ⟨hlllen, -⟩ := h.length_lengthVector hlim
  have hsplit : t.lengthVector.take t.hlit = t.lllen.take t.hlit ∧ t.lengthVector.drop t.hlit = t.ddlen.take t.hdist :=
    ⟨List.take_left' hlllen, List.drop_left' hlllen⟩
  have hlengths := h.inflateLengths hlim
  have htokens := h.inflateTokens hlim
  rw [metaBook] at hlengths
  rw [tokenBook] at htokens
  unfold Sys2Proof.Machine.inflate
  rw [bytesToBits_bitsToBytes, blockBits_append]
  simp only [field (i := .bfinal) rfl rfl rfl, field (i := .btype) rfl rfl rfl, hhlit, hhdist, hhclen, ha, hb, hc,
    Nat.sub_add_cancel hlit1, Nat.sub_add_cancel hdist1, Nat.sub_add_cancel hclen1, h.inflateCllens hlim,
    Option.bind_some, h.metaLengths_cllenFields hlim, hlengths, hsplit, htokens]
  exact if_pos hpad

end

/-- Settles O18: an accepted START makes the input's block, which reads back as the input. -/
theorem roundTripOfEveryConformingBlock : Obligations.RoundTripOfEveryConformingBlock := by
  intro P hP s hlen
  obtain ⟨t, u, hrun, hblock, -, hdone, -, -, -, -, -, hbytes⟩ := opCompress_block hP hlen
  exact ⟨u, bitsToBytes (blockBits t), hrun, hdone, hbytes, hblock.inflate hP.2⟩

/-- Settles O17: the default parameters conform. -/
theorem roundTrip : Obligations.RoundTrip := by
  intro s hlen
  obtain ⟨t, Y, hrun, hdone, hbytes, hinflate⟩ := roundTripOfEveryConformingBlock params params_conforming s hlen
  exact ⟨t, Y, congrArg finish hrun, hdone, hbytes, hinflate⟩

end Sys2Proof.Machine
end

section
/-! PROOFS. The control fields are the sequencer's and the host's: an operation neither reads them nor, unless it raises
an error, writes them. -/

namespace Sys2Proof.Machine

/-- The fields that no operation but COMPRESS reads: flags, phase and error code, and the model's queue and schedule. -/
structure Control where
  busy : Bool
  done : Bool
  err : Bool
  phase : Phase
  errcode : ErrCode
  opq : List OpWord
  hostQ : List HostTurn

/-- The state with given control fields. -/
def State.under (s : State) (c : Control) : State :=
  { s with busy := c.busy, done := c.done, err := c.err, phase := c.phase, errcode := c.errcode, opq := c.opq
           hostQ := c.hostQ }

/-- The control fields of a state. -/
def State.control (s : State) : Control := ⟨s.busy, s.done, s.err, s.phase, s.errcode, s.opq, s.hostQ⟩

/-- The answer with given control fields; error entry keeps its own but for the host's schedule. -/
def underControl (c : Control) : Result → Result
  | .ok t => .ok (t.under c)
  | .error (.raised u) => .error (.raised { u with hostQ := c.hostQ })
  | .error (.fault x) => .error (.fault x)

/-- The operation does not read the control fields and leaves them as they are unless it ends early. -/
def Framed (f : State → Result) : Prop := ∀ c s, f (s.under c) = underControl c (f s)

@[simp] theorem State.under_control (s : State) : s.under s.control = s := rfl

@[simp] theorem State.control_under (s : State) (c : Control) : (s.under c).control = c := rfl

@[simp] theorem State.freq_under (s : State) (c : Control) (a : Alphabet) : (s.under c).freq a = s.freq a := by
  cases a <;> rfl

@[simp] theorem State.lens_under (s : State) (c : Control) (a : Alphabet) : (s.under c).lens a = s.lens a := by
  cases a <;> rfl

@[simp] theorem State.codes_under (s : State) (c : Control) (a : Alphabet) : (s.under c).codes a = s.codes a := by
  cases a <;> rfl

@[simp] theorem State.setLens_under (s : State) (c : Control) (a : Alphabet) (L : List Nat) :
    (s.under c).setLens a L = (s.setLens a L).under c := by
  cases a <;> rfl

@[simp] theorem State.setCodes_under (s : State) (c : Control) (a : Alphabet) (C : List Nat) :
    (s.under c).setCodes a C = (s.setCodes a C).under c := by
  cases a <;> rfl

/-- A framed operation that answers leaves the control fields as they were. -/
theorem Framed.control_eq {f : State → Result} (hf : Framed f) {s t : State} (h : f s = .ok t) :
    t.control = s.control := by
  have hframe := hf s.control s
  rw [State.under_control, h] at hframe
  rw [Except.ok.inj hframe, State.control_under]

theorem Framed.andThen {f g : State → Result} (hf : Framed f) (hg : Framed g) :
    Framed fun s => Machine.andThen (f s) g := by
  intro c s
  show Machine.andThen (f (s.under c)) g = underControl c (Machine.andThen (f s) g)
  rw [hf c s]
  cases hr : f s with
  | ok t => exact hg c t
  | error e => cases e <;> rfl

theorem Framed.ok {g : State → State} (h : ∀ c s, g (s.under c) = (g s).under c) : Framed fun s => .ok (g s) :=
  fun c s => congrArg Except.ok (h c s)

theorem Framed.raise (e : ErrCode) : Framed (raise e) := fun _ _ => rfl

theorem Framed.ite {p : State → Prop} [DecidablePred p] (hp : ∀ c s, p (s.under c) ↔ p s) {f g : State → Result}
    (hf : Framed f) (hg : Framed g) : Framed fun s => if p s then f s else g s := by
  intro c s
  by_cases h : p s
  · simp only [h, (hp c s).mpr h, if_true]
    exact hf c s
  · simp only [h, mt (hp c s).mp h, if_false]
    exact hg c s

theorem Framed.forEach {α : Type} {f : α → State → Result} (hf : ∀ x, Framed (f x)) {tick : State → State}
    (htick : ∀ c s, tick (s.under c) = (tick s).under c) (xs : List α) : Framed (forEach f tick xs) := by
  induction xs with
  | nil => exact fun _ _ => rfl
  | cons x xs ih => exact (hf x).andThen fun c s => by rw [htick, ih c]

theorem Framed.append (bs : List Bit) : Framed fun s => .ok (s.emit bs) := Framed.ok fun _ _ => rfl

theorem writeSymbol_framed (a : Alphabet) (x : Nat) : Framed (writeSymbol a x) := by
  intro c s
  simp only [writeSymbol, State.lens_under, State.codes_under]
  split
  · rfl
  · rfl

theorem writeCoded_framed (a : Alphabet) (x v n : Nat) : Framed (writeCoded a x v n) :=
  (writeSymbol_framed a x).andThen (Framed.append _)

theorem writeTuple_framed (t : RleTuple) : Framed (writeTuple t) :=
  Framed.ite (p := fun _ => t.wf = true) (fun _ _ => Iff.rfl) (writeCoded_framed _ _ _ _) (Framed.raise _)

theorem opWriteMatch_framed (l d : Nat) : Framed (opWriteMatch l d) := by
  unfold opWriteMatch
  cases lengthLookup l with
  | none => exact Framed.raise _
  | some r =>
    cases distLookup d with
    | none => exact Framed.raise _
    | some e => exact (writeCoded_framed .ll _ _ _).andThen (writeCoded_framed .dd _ _ _)

theorem writeToken_framed (x : Token) : Framed (writeToken x) := by
  cases x with
  | literal b => exact writeSymbol_framed .ll b.toNat
  | backRef l d => exact opWriteMatch_framed l d

theorem opWriteHeader_framed : Framed opWriteHeader := by
  intro c s
  have hrange : (s.under c).headerInRange = s.headerInRange := rfl
  simp only [opWriteHeader, hrange]
  split
  · rfl
  · rfl

theorem opWriteCllens_framed : Framed opWriteCllens := by
  intro c s
  rw [opWriteCllens, opWriteCllens, cllensLoop_eq, cllensLoop_eq]
  exact Framed.forEach (f := fun x t => opAppendBitsLsb (t.cllen.getD x 0) 3 t) (fun _ _ _ => rfl) (fun _ _ => rfl)
    (clOrder.take s.hclen) c { s with ci := 0 }

theorem opWriteRle_framed : Framed opWriteRle := by
  intro c s
  rw [opWriteRle, opWriteRle, writeRleLoop_eq, writeRleLoop_eq]
  exact Framed.forEach writeTuple_framed (fun _ _ => rfl) s.rle c { s with ri := 0 }

theorem opWriteTokens_framed : Framed opWriteTokens := by
  intro c s
  rw [opWriteTokens, opWriteTokens, writeTokensLoop_eq, writeTokensLoop_eq]
  exact Framed.forEach writeToken_framed (fun _ _ => rfl) s.tok c { s with ti := 0 }

theorem memWrite_framed (maxInput a : Nat) (v : Byte) : Framed fun s => s.memWrite maxInput a v := by
  intro c s
  simp only [State.memWrite]
  split
  · rfl
  · rfl

theorem writeBytes_framed (maxInput a : Nat) (vs : List Byte) : Framed (writeBytes maxInput a vs) := by
  induction vs generalizing a with
  | nil => exact fun _ _ => rfl
  | cons v vs ih => exact (memWrite_framed maxInput a v).andThen (ih (a + 1))

theorem opFinalize_framed (maxInput : Nat) : Framed (opFinalize maxInput) := fun c s =>
  (writeBytes_framed maxInput 0 (bitsToBytes s.bits)).andThen
    (Framed.ok (g := fun t => { t with outLen := (bitsToBytes s.bits).length }) fun _ _ => rfl) c s

theorem opPad_framed (maxInput : Nat) : Framed (opPad maxInput) := by
  intro c s
  have hbits : (s.under c).bits = s.bits := rfl
  simp only [opPad, hbits]
  split
  · rfl
  · exact memWrite_framed _ _ _ c s

theorem opLengthLookup_framed (l : Nat) : Framed (opLengthLookup l) := by
  unfold opLengthLookup
  cases lengthLookup l with
  | none => exact Framed.raise _
  | some r => exact fun _ _ => rfl

theorem opDistLookup_framed (d : Nat) : Framed (opDistLookup d) := by
  unfold opDistLookup
  cases distLookup d with
  | none => exact Framed.raise _
  | some r => exact fun _ _ => rfl

theorem lzStepOn_framed (S : List Byte) : Framed (lzStepOn S) := by
  intro c s
  have hp : (s.under c).p = s.p := rfl
  simp only [lzStepOn, hp]
  split
  · rfl
  · split
    · rfl
    · rfl

theorem lz77Loop_framed (S : List Byte) (k : Nat) : Framed (lz77Loop S k) := by
  induction k with
  | zero => exact fun _ _ => rfl
  | succ k ih =>
    exact Framed.ite (p := fun s => s.p < S.length) (fun _ _ => Iff.rfl) ((lzStepOn_framed S).andThen ih)
      (fun _ _ => rfl)

/-- An operation on the bytes of the input, if they are all below the bound. -/
theorem framed_inputSeq {maxInput : Nat} {g : List Byte → State → Result} (hg : ∀ S, Framed (g S)) {f : State → Result}
    (hf : ∀ s, f s = (s.inputSeq maxInput).bind fun S => g S s) : Framed f := by
  intro c s
  have hin : (s.under c).inputSeq maxInput = s.inputSeq maxInput := rfl
  rw [hf, hf, hin]
  rcases Nat.lt_or_ge maxInput s.n with h | h
  · rw [inputSeq_fault h]
    rfl
  · rw [inputSeq_ok h]
    exact hg _ c s

theorem opLzSearch_eq_bind (maxInput : Nat) (s : State) : opLzSearch maxInput s =
    (s.inputSeq maxInput).bind fun S => .ok { s with best := lzSearch S s.p } := by
  unfold opLzSearch
  cases s.inputSeq maxInput <;> rfl

theorem opLzStep_eq_bind (maxInput : Nat) (s : State) : opLzStep maxInput s =
    (s.inputSeq maxInput).bind fun S => lzStepOn S s := by
  unfold opLzStep
  cases s.inputSeq maxInput <;> rfl

theorem opLz77_eq_bind (maxInput : Nat) (s : State) : opLz77 maxInput s =
    (s.inputSeq maxInput).bind fun S => lz77Loop S s.n { s with p := 0, tok := [] } := by
  unfold opLz77
  cases s.inputSeq maxInput <;> rfl

theorem opLzSearch_framed (maxInput : Nat) : Framed (opLzSearch maxInput) :=
  framed_inputSeq (g := fun S s => .ok { s with best := lzSearch S s.p }) (fun _ _ _ => rfl)
    (opLzSearch_eq_bind maxInput)

theorem opLzStep_framed (maxInput : Nat) : Framed (opLzStep maxInput) :=
  framed_inputSeq lzStepOn_framed (opLzStep_eq_bind maxInput)

theorem opLz77_framed (maxInput : Nat) : Framed (opLz77 maxInput) :=
  framed_inputSeq (g := fun S s => lz77Loop S s.n { s with p := 0, tok := [] })
    (fun S c s => lz77Loop_framed S s.n c { s with p := 0, tok := [] }) (opLz77_eq_bind maxInput)

theorem tallyToken_framed (x : Token) : Framed (tallyToken x) := by
  cases x with
  | literal b => exact fun _ _ => rfl
  | backRef l d =>
    intro c s
    simp only [tallyToken]
    split
    · rfl
    · rfl

theorem opTally_framed : Framed opTally := by
  intro c s
  rw [opTally, opTally, tallyLoop_eq, tallyLoop_eq]
  exact ((Framed.forEach tallyToken_framed (fun _ _ => rfl) s.tok).andThen
    (Framed.ok (g := fun t => { t with llf := bump t.llf Config.eobSymbol }) fun _ _ => rfl)) c { s with ti := 0 }

theorem clTallyTuple_framed (t : RleTuple) : Framed (clTallyTuple t) :=
  Framed.ite (p := fun _ => t.wf = true) (fun _ _ => Iff.rfl) (fun _ _ => rfl) (Framed.raise _)

theorem opClTally_framed : Framed opClTally := by
  intro c s
  rw [opClTally, opClTally, clTallyLoop_eq, clTallyLoop_eq]
  exact Framed.forEach clTallyTuple_framed (fun _ _ => rfl) s.rle c { s with ri := 0 }

theorem opHuffLeaves_framed (a : Alphabet) : Framed (opHuffLeaves a) := fun c s => by
  rw [opHuffLeaves, State.freq_under]
  rfl

theorem opHuffMerge_framed : Framed opHuffMerge := fun _ _ => rfl

theorem opHuffExtract_framed (a : Alphabet) : Framed (opHuffExtract a) := by
  intro c s
  have hlive : (s.under c).live = s.live := rfl
  simp only [opHuffExtract, hlive]
  split
  · rfl
  · rfl

theorem opHuffLimit_framed (limiter : List Nat → List Nat → Nat → List Nat) (a : Alphabet) :
    Framed (opHuffLimit limiter a) := fun c s => by
  rw [opHuffLimit, State.setLens_under, State.freq_under]
  rfl

theorem checkLimit_framed (a : Alphabet) : Framed (checkLimit a) :=
  Framed.ite (p := fun s => (s.lens a).all (fun l => decide (l ≤ a.maxLen)) = true)
    (fun c s => by rw [State.lens_under]) (fun _ _ => rfl) (Framed.raise _)

theorem opHuffCanon_framed (a : Alphabet) : Framed (opHuffCanon a) := fun c s => by
  rw [opHuffCanon, State.setCodes_under, State.lens_under, State.codes_under]
  rfl

theorem opHuffBuild_framed (limiter : List Nat → List Nat → Nat → List Nat) (a : Alphabet) :
    Framed (opHuffBuild limiter a) :=
  (opHuffLeaves_framed a).andThen <| opHuffMerge_framed.andThen <| (opHuffExtract_framed a).andThen <|
    (opHuffLimit_framed limiter a).andThen <| (checkLimit_framed a).andThen (opHuffCanon_framed a)

theorem opSizeHlit_framed : Framed opSizeHlit := fun _ _ => rfl

theorem opSizeHdist_framed : Framed opSizeHdist := fun _ _ => rfl

theorem opSizeHclen_framed : Framed opSizeHclen := fun _ _ => rfl

theorem opClRle_framed : Framed opClRle := fun _ _ => rfl

end Sys2Proof.Machine
end

section
/-! PROOFS. What every operation keeps: the sizes and ranges of the register files, of the tokens and tuples, of the
forest and of the buffers (R11, R16, R20 to R26), and `N`. -/

namespace Sys2Proof.Machine

/-- The clauses of the invariant that are not about the control fields. -/
structure State.Data (s : State) : Prop where
  outListed : ∀ k < s.outLen, ∃ b, Memory.read s.out k = some b
  freqSize : ∀ a, (s.freq a).length = a.size
  lensSize : ∀ a, (s.lens a).length = a.size
  codesSize : ∀ a, (s.codes a).length = a.size
  lensCap : ∀ a, ∀ l ∈ s.lens a, l ≤ a.maxLen
  hlitRange : s.hlit = 0 ∨ 257 ≤ s.hlit ∧ s.hlit ≤ 286
  hdistRange : s.hdist = 0 ∨ 1 ≤ s.hdist ∧ s.hdist ≤ 30
  hclenRange : s.hclen = 0 ∨ 4 ≤ s.hclen ∧ s.hclen ≤ 19
  tokRange : ∀ t ∈ s.tok, t.wf = true
  rleRange : ∀ t ∈ s.rle, t.wf = true
  rleCount : s.nrle ≤ 316
  liveRises : s.live.Pairwise (· < ·)
  liveInNode : ∀ i ∈ s.live, i < s.seq
  inWf : Memory.wf s.inp = true
  outWf : Memory.wf s.out = true
  inRange : ∀ c ∈ s.inp, c.1 < Config.defaultMaxInput
  outRange : ∀ c ∈ s.out, c.1 < Config.outMax Config.defaultMaxInput

/-- The answer of an operation from `s`: it keeps the data and `N`, raises nothing but Internal, and faults on `IN` only
with `N` above the bound, on `OUT` only if `spill`. -/
structure Reaches (spill : Prop) (s : State) (r : Result) : Prop where
  ok : ∀ t, r = .ok t → t.n = s.n ∧ (s.Data → t.Data)
  raised : ∀ u, r = .error (.raised u) → ∃ v : State, u = v.errorEntry .internal ∧ v.n = s.n ∧ (s.Data → v.Data)
  inFault : r = .error (.fault .inputAddress) → Config.defaultMaxInput < s.n
  outFault : r = .error (.fault .outputAddress) → spill

section

variable {spill : Prop} {s t : State}

theorem Reaches.of_data (hn : t.n = s.n) (h : s.Data → t.Data) : Reaches spill s (.ok t) where
  ok _ hu := by
    obtain rfl := Except.ok.inj hu
    exact ⟨hn, h⟩
  raised _ h := by cases h
  inFault h := by cases h
  outFault h := by cases h

theorem Reaches.of_fault {x : Fault} (hin : x = .inputAddress → Config.defaultMaxInput < s.n)
    (hout : x = .outputAddress → spill) : Reaches spill s (.error (.fault x)) where
  ok _ h := by cases h
  raised _ h := by cases h
  inFault h := hin (Stop.fault.inj (Except.error.inj h))
  outFault h := hout (Stop.fault.inj (Except.error.inj h))

theorem Reaches.raise : Reaches spill s (raise .internal s) where
  ok _ h := by cases h
  raised _ hu := ⟨s, (Stop.raised.inj (Except.error.inj hu)).symm, rfl, id⟩
  inFault h := by cases h
  outFault h := by cases h

/-- From a state with the same `N` and at least the data. -/
theorem Reaches.of_start {r : Result} (h : Reaches spill t r) (hn : t.n = s.n) (hdata : s.Data → t.Data) :
    Reaches spill s r where
  ok u hu := ⟨(h.ok u hu).1.trans hn, fun hs => (h.ok u hu).2 (hdata hs)⟩
  raised u hu := by
    obtain ⟨v, hv, hvn, hvdata⟩ := h.raised u hu
    exact ⟨v, hv, hvn.trans hn, fun hs => hvdata (hdata hs)⟩
  inFault hf := hn ▸ h.inFault hf
  outFault := h.outFault

theorem Reaches.andThen {r : Result} {f : State → Result} (hr : Reaches spill s r)
    (hf : ∀ t, r = .ok t → Reaches spill t (f t)) : Reaches spill s (Machine.andThen r f) := by
  cases r with
  | ok t => exact (hf t rfl).of_start (hr.ok t rfl).1 (hr.ok t rfl).2
  | error e => exact hr

theorem Reaches.forEach {α : Type} {f : α → State → Result} {tick : State → State} (hf : ∀ x s, Reaches spill s (f x s))
    (htick : ∀ s : State, (tick s).n = s.n ∧ (s.Data → (tick s).Data)) (xs : List α) :
    Reaches spill s (forEach f tick xs s) := by
  induction xs generalizing s with
  | nil => exact .of_data rfl id
  | cons x xs ih => exact (hf x s).andThen fun t _ => ih.of_start (htick t).1 (htick t).2

theorem Reaches.emit (bs : List Bit) : Reaches spill s (.ok (s.emit bs)) := .of_data rfl fun h => { h with }

theorem Reaches.writeSymbol (a : Alphabet) (x : Nat) : Reaches spill s (writeSymbol a x s) := by
  unfold Machine.writeSymbol
  split
  · exact .raise
  · exact .emit _

theorem Reaches.writeCoded (a : Alphabet) (x v n : Nat) : Reaches spill s (writeCoded a x v n s) :=
  (Reaches.writeSymbol a x).andThen fun _ _ => .emit _

theorem Reaches.writeTuple (x : RleTuple) : Reaches spill s (writeTuple x s) := by
  unfold Machine.writeTuple
  split
  · exact .writeCoded _ _ _ _
  · exact .raise

theorem Reaches.opWriteMatch (l d : Nat) : Reaches spill s (opWriteMatch l d s) := by
  unfold Machine.opWriteMatch
  split
  · exact (Reaches.writeCoded _ _ _ _).andThen fun _ _ => .writeCoded _ _ _ _
  · exact .raise

theorem Reaches.writeToken (x : Token) : Reaches spill s (writeToken x s) := by
  cases x with
  | literal b => exact .writeSymbol .ll b.toNat
  | backRef l d => exact .opWriteMatch l d

theorem Reaches.opWriteHeader : Reaches spill s (opWriteHeader s) := by
  unfold Machine.opWriteHeader
  split
  · exact (Reaches.emit _).andThen fun _ _ => (Reaches.emit _).andThen fun _ _ => (Reaches.emit _).andThen fun _ _ =>
      (Reaches.emit _).andThen fun _ _ => .emit _
  · exact .raise

theorem Reaches.opWriteCllens : Reaches spill s (opWriteCllens s) := by
  rw [Machine.opWriteCllens, cllensLoop_eq]
  refine Reaches.of_start (t := { s with ci := 0 }) ?_ rfl fun h => { h with }
  refine Reaches.forEach ?_ ?_ _
  · exact fun _ _ => .emit _
  · exact fun _ => ⟨rfl, fun h => { h with }⟩

theorem Reaches.opWriteRle : Reaches spill s (opWriteRle s) := by
  rw [Machine.opWriteRle, writeRleLoop_eq]
  refine Reaches.of_start (t := { s with ri := 0 }) ?_ rfl fun h => { h with }
  refine Reaches.forEach ?_ ?_ _
  · exact fun x _ => .writeTuple x
  · exact fun _ => ⟨rfl, fun h => { h with }⟩

theorem Reaches.opWriteTokens : Reaches spill s (opWriteTokens s) := by
  rw [Machine.opWriteTokens, writeTokensLoop_eq]
  refine Reaches.of_start (t := { s with ti := 0 }) ?_ rfl fun h => { h with }
  refine Reaches.forEach ?_ ?_ _
  · exact fun x _ => .writeToken x
  · exact fun _ => ⟨rfl, fun h => { h with }⟩

theorem Memory.mem_write {m : List Host.Cell} {a : Nat} {v : Byte} {c : Host.Cell} (h : c ∈ Memory.write m a v) :
    c = (a, v) ∨ c ∈ m := by
  induction m with
  | nil => exact .inl (List.mem_singleton.mp h)
  | cons d m ih =>
    obtain ⟨b, w⟩ := d
    rw [Memory.write] at h
    split at h
    · exact List.mem_cons.mp h
    · split at h
      · exact (List.mem_cons.mp h).imp id (List.mem_cons_of_mem _)
      · rcases List.mem_cons.mp h with rfl | h
        · exact .inr List.mem_cons_self
        · exact (ih h).imp id (List.mem_cons_of_mem _)

/-- A written byte of OUT: the form of the list, the listed indices and their range stay. -/
theorem State.Data.write {s : State} (h : s.Data) {a : Nat} (v : Byte)
    (ha : a < Config.outMax Config.defaultMaxInput) : State.Data { s with out := Memory.write s.out a v } :=
  { h with
    outListed := fun k hk => by
      by_cases hka : k = a
      · exact ⟨v, hka ▸ Memory.read_write_same s.out k v⟩
      · obtain ⟨b, hb⟩ := h.outListed k hk
        exact ⟨b, (Memory.read_write_other s.out a k v hka).trans hb⟩
    outWf := Memory.wf_write s.out a v h.outWf
    outRange := fun c hc => by
      rcases Memory.mem_write hc with rfl | hc
      · exact ha
      · exact h.outRange c hc }

theorem Reaches.memWrite {a : Nat} (v : Byte) (hspill : Config.outMax Config.defaultMaxInput ≤ a → spill) :
    Reaches spill s (s.memWrite Config.defaultMaxInput a v) := by
  unfold State.memWrite
  split
  next ha => exact .of_data rfl fun h => h.write v ha
  next ha => exact .of_fault Fault.noConfusion fun _ => hspill (Nat.not_lt.mp ha)

theorem Reaches.writeBytes {a : Nat} {vs : List Byte}
    (hspill : Config.outMax Config.defaultMaxInput < a + vs.length → spill) :
    Reaches spill s (writeBytes Config.defaultMaxInput a vs s) := by
  induction vs generalizing a s with
  | nil => exact .of_data rfl id
  | cons v vs ih =>
    rw [List.length_cons] at hspill
    exact (Reaches.memWrite v fun ha => hspill (by omega)).andThen fun _ _ => ih fun h => hspill (by omega)

/-- After the bytes are written, as many are listed. -/
theorem Reaches.opFinalize :
    Reaches (Config.outMax Config.defaultMaxInput < (s.nbits + 7) / 8) s (opFinalize Config.defaultMaxInput s) := by
  refine (Reaches.writeBytes fun h => ?_).andThen fun t ht => .of_data rfl fun hdata => { hdata with
    outListed := fun k hk => ?_ }
  · rwa [Nat.zero_add, length_bitsToBytes] at h
  · obtain ⟨-, out, hok, hread, -, -⟩ | ⟨-, -, herr⟩ :=
      writeBytes_cases Config.defaultMaxInput 0 (bitsToBytes s.bits) s
    · obtain rfl := Except.ok.inj (hok.symm.trans ht)
      have hbyte := hread k hk
      rw [Nat.zero_add, List.getElem?_eq_getElem hk] at hbyte
      exact ⟨_, hbyte⟩
    · rw [herr] at ht
      cases ht

theorem Reaches.opPad :
    Reaches (Config.outMax Config.defaultMaxInput < (s.nbits + 7) / 8) s (opPad Config.defaultMaxInput s) := by
  unfold Machine.opPad
  split
  next => exact .of_data rfl id
  next hpartial =>
    refine .memWrite _ fun h => ?_
    have hbits : s.nbits = s.bits.length := rfl
    omega

theorem Reaches.opLengthLookup (l : Nat) : Reaches spill s (opLengthLookup l s) := by
  unfold Machine.opLengthLookup
  split
  · exact .of_data rfl fun h => { h with }
  · exact .raise

theorem Reaches.opDistLookup (d : Nat) : Reaches spill s (opDistLookup d s) := by
  unfold Machine.opDistLookup
  split
  · exact .of_data rfl fun h => { h with }
  · exact .raise

theorem Reaches.lzStepOn (S : List Byte) : Reaches spill s (lzStepOn S s) := by
  rcases Nat.lt_or_ge s.p S.length with hp | hp
  · rw [lzStepOn_eq hp]
    refine .of_data rfl fun h => { h with tokRange := fun x hx => ?_ }
    rcases List.mem_append.mp hx with hx | hx
    · exact h.tokRange x hx
    · rw [List.mem_singleton.mp hx]
      exact (nextToken_spec hp).1
  · have hnone : S[s.p]? = none := List.getElem?_eq_none hp
    simp only [Machine.lzStepOn, hnone]
    exact .raise

theorem Reaches.lz77Loop (S : List Byte) (k : Nat) : Reaches spill s (lz77Loop S k s) := by
  induction k generalizing s with
  | zero => exact .of_data rfl id
  | succ k ih =>
    rw [Machine.lz77Loop]
    split
    · exact (Reaches.lzStepOn S).andThen fun _ _ => ih
    · exact .of_data rfl id

/-- A read of the input answers its bytes, or faults with `N` above the bound. -/
theorem Reaches.inputSeq {g : List Byte → State → Result} (hg : ∀ S, Reaches spill s (g S s)) :
    Reaches spill s ((s.inputSeq Config.defaultMaxInput).bind fun S => g S s) := by
  rcases Nat.lt_or_ge Config.defaultMaxInput s.n with h | h
  · rw [inputSeq_fault h]
    exact .of_fault (fun _ => h) Fault.noConfusion
  · rw [inputSeq_ok h]
    exact hg _

theorem Reaches.opLzSearch : Reaches spill s (opLzSearch Config.defaultMaxInput s) := by
  rw [opLzSearch_eq_bind]
  exact .inputSeq (g := fun S s => .ok { s with best := lzSearch S s.p }) fun S => .of_data rfl fun h => { h with }

theorem Reaches.opLzStep : Reaches spill s (opLzStep Config.defaultMaxInput s) := by
  rw [opLzStep_eq_bind]
  exact .inputSeq fun S => .lzStepOn S

theorem Reaches.opLz77 : Reaches spill s (opLz77 Config.defaultMaxInput s) := by
  rw [opLz77_eq_bind]
  refine .inputSeq (g := fun S s => Machine.lz77Loop S s.n { s with p := 0, tok := [] }) fun S => ?_
  exact (Reaches.lz77Loop S s.n).of_start (t := { s with p := 0, tok := [] }) rfl fun h => { h with tokRange := nofun }

theorem State.Data.tally {s : State} (h : s.Data) {llf ddf clf : List Nat} (hll : llf.length = s.llf.length)
    (hdd : ddf.length = s.ddf.length) (hcl : clf.length = s.clf.length) :
    State.Data { s with llf := llf, ddf := ddf, clf := clf } :=
  { h with
    freqSize := fun a => match a with
      | .ll => hll.trans (h.freqSize .ll)
      | .dd => hdd.trans (h.freqSize .dd)
      | .cl => hcl.trans (h.freqSize .cl) }

theorem Reaches.tallyToken (x : Token) : Reaches spill s (tallyToken x s) := by
  cases x with
  | literal b => exact .of_data rfl fun h => h.tally (length_bump _ _) rfl rfl
  | backRef l d =>
    simp only [Machine.tallyToken]
    split
    · exact .of_data rfl fun h => h.tally (length_bump _ _) (length_bump _ _) rfl
    · exact .raise

theorem Reaches.opTally : Reaches spill s (opTally s) := by
  rw [Machine.opTally, tallyLoop_eq]
  refine Reaches.andThen ?_ fun t _ => .of_data rfl fun h => h.tally (length_bump _ _) rfl rfl
  refine Reaches.of_start (t := { s with ti := 0 }) ?_ rfl fun h => { h with }
  refine Reaches.forEach ?_ ?_ _
  · exact fun x _ => .tallyToken x
  · exact fun _ => ⟨rfl, fun h => { h with }⟩

theorem Reaches.opClTally : Reaches spill s (opClTally s) := by
  rw [Machine.opClTally, clTallyLoop_eq]
  refine Reaches.of_start (t := { s with ri := 0 }) ?_ rfl fun h => { h with }
  refine Reaches.forEach (fun x s => ?_) ?_ _
  · unfold clTallyTuple
    split
    · exact .of_data rfl fun h => h.tally rfl rfl (length_bump _ _)
    · exact .raise
  · exact fun _ => ⟨rfl, fun h => { h with }⟩

theorem Reaches.opHuffLeaves (a : Alphabet) : Reaches spill s (opHuffLeaves a s) :=
  .of_data rfl fun h => { h with
    liveRises := List.pairwise_lt_range
    liveInNode := fun _ hi => List.mem_range.mp hi }

/-- Merging keeps the live nodes in rising order and inside the arena (R22). -/
theorem mergeLoop_live {k : Nat} {nodes : List Node} {live : List Nat} (hrises : live.Pairwise (· < ·))
    (hin : ∀ i ∈ live, i < nodes.length) :
    (mergeLoop k nodes live).2.Pairwise (· < ·) ∧
      ∀ i ∈ (mergeLoop k nodes live).2, i < (mergeLoop k nodes live).1.length := by
  induction k generalizing nodes live with
  | zero => exact ⟨hrises, hin⟩
  | succ k ih =>
    rcases Nat.lt_or_ge live.length 2 with h1 | h2
    · rw [mergeLoop_of_single (Nat.le_of_lt_succ h1)]
      exact ⟨hrises, hin⟩
    · obtain ⟨a, b, -, -, hstep⟩ := mergeStep_of_two_live nodes h2
      have hsub : ((live.erase a).erase b).Sublist live := (List.erase_sublist).trans List.erase_sublist
      rw [mergeLoop_of_merge h2 hstep]
      refine ih ?_ fun i hi => ?_
      · refine List.pairwise_append.mpr ⟨hrises.sublist hsub, List.pairwise_singleton _ _, fun i hi j hj => ?_⟩
        rw [List.mem_singleton.mp hj]
        exact hin i (hsub.subset hi)
      · rw [List.length_append]
        rcases List.mem_append.mp hi with hi | hi
        · exact Nat.lt_succ_of_lt (hin i (hsub.subset hi))
        · rw [List.mem_singleton.mp hi]
          exact Nat.lt_succ_self _

theorem Reaches.opHuffMerge : Reaches spill s (opHuffMerge s) :=
  .of_data rfl fun h =>
    have hlive := mergeLoop_live (k := s.live.length) h.liveRises h.liveInNode
    { h with liveRises := hlive.1, liveInNode := hlive.2 }

theorem Reaches.opHuffExtract (a : Alphabet) : Reaches spill s (opHuffExtract a s) := by
  unfold Machine.opHuffExtract
  split
  · exact .of_data rfl fun h => { h with }
  · exact .raise

theorem State.n_setLens (s : State) (a : Alphabet) (L : List Nat) : (s.setLens a L).n = s.n := by
  cases a <;> rfl

theorem State.n_setCodes (s : State) (a : Alphabet) (C : List Nat) : (s.setCodes a C).n = s.n := by
  cases a <;> rfl

theorem State.Data.setLens {s : State} (h : s.Data) {a : Alphabet} {L : List Nat} (hsize : L.length = a.size)
    (hcap : ∀ l ∈ L, l ≤ a.maxLen) : (s.setLens a L).Data := by
  have hsizes : ∀ b, ((s.setLens a L).lens b).length = b.size := fun b => by
    by_cases hb : b = a
    · subst hb
      rw [State.lens_setLens, hsize]
    · rw [State.lens_setLens_ne s L hb, h.lensSize]
  have hcaps : ∀ b, ∀ l ∈ (s.setLens a L).lens b, l ≤ b.maxLen := fun b => by
    by_cases hb : b = a
    · subst hb
      rwa [State.lens_setLens]
    · rw [State.lens_setLens_ne s L hb]
      exact h.lensCap b
  cases a <;> exact { h with lensSize := hsizes, lensCap := hcaps }

theorem State.Data.setCodes {s : State} (h : s.Data) {a : Alphabet} {C : List Nat} (hsize : C.length = a.size) :
    (s.setCodes a C).Data := by
  have hsizes : ∀ b, ((s.setCodes a C).codes b).length = b.size := fun b => by
    by_cases hb : b = a
    · subst hb
      rw [State.codes_setCodes, hsize]
    · rw [State.codes_setCodes_ne s C hb, h.codesSize]
  cases a <;> exact { h with codesSize := hsizes }

theorem Reaches.opHuffLimit (a : Alphabet) : Reaches spill s (opHuffLimit params.limiter a s) := by
  have hlen : (defaultLimiter (fit a.size s.u) a.maxLen).length = a.size := by
    rw [length_defaultLimiter, length_fit]
  have heq : Machine.opHuffLimit params.limiter a s =
      .ok (s.setLens a (defaultLimiter (fit a.size s.u) a.maxLen)) :=
    congrArg (fun L => Except.ok (s.setLens a L)) (fit_of_length hlen)
  rw [heq]
  exact .of_data (State.n_setLens _ _ _) fun h => h.setLens hlen (defaultLimiter_le _ _)

theorem Reaches.checkLimit (a : Alphabet) : Reaches spill s (checkLimit a s) := by
  unfold Machine.checkLimit
  split
  · exact .of_data rfl id
  · exact .raise

theorem Reaches.opHuffCanon (a : Alphabet) : Reaches spill s (opHuffCanon a s) :=
  .of_data (State.n_setCodes _ _ _) fun h =>
    h.setCodes ((canonCodes_spec (h.lensCap a)).1.trans (h.lensSize a))

theorem Reaches.opHuffBuild (a : Alphabet) : Reaches spill s (opHuffBuild params.limiter a s) :=
  (Reaches.opHuffLeaves a).andThen fun _ _ => Reaches.opHuffMerge.andThen fun _ _ =>
    (Reaches.opHuffExtract a).andThen fun _ _ => (Reaches.opHuffLimit a).andThen fun _ _ =>
      (Reaches.checkLimit a).andThen fun _ _ => Reaches.opHuffCanon a

theorem Reaches.opSizeHlit : Reaches spill s (opSizeHlit s) :=
  .of_data rfl fun h => { h with
    hlitRange := by
      have hused : usedLength s.lllen ≤ 286 := (usedLength_le _).trans (h.lensSize .ll).le
      exact .inr ⟨Nat.le_max_left _ _, Nat.max_le.mpr ⟨by decide, hused⟩⟩ }

theorem Reaches.opSizeHdist : Reaches spill s (opSizeHdist s) :=
  .of_data rfl fun h => { h with
    hdistRange := by
      have hused : usedLength s.ddlen ≤ 30 := (usedLength_le _).trans (h.lensSize .dd).le
      exact .inr ⟨Nat.le_max_left _ _, Nat.max_le.mpr ⟨by decide, hused⟩⟩ }

theorem Reaches.opSizeHclen : Reaches spill s (opSizeHclen s) :=
  .of_data rfl fun h => { h with
    hclenRange := by
      have hused : usedLength (clOrder.map fun c => s.cllen.getD c 0) ≤ 19 := usedLength_le _
      exact .inr ⟨Nat.le_max_left _ _, Nat.max_le.mpr ⟨by decide, hused⟩⟩ }

theorem Reaches.opClRle : Reaches spill s (opClRle s) :=
  .of_data rfl fun h => by
    obtain ⟨hcount, hwf⟩ := rleEncode_within (mem_lengthVector_le (h.lensCap .ll) (h.lensCap .dd))
    have hlen : s.lengthVector.length ≤ 316 := by
      have hll : s.lllen.length = 286 := h.lensSize .ll
      have hdd : s.ddlen.length = 30 := h.lensSize .dd
      rw [State.lengthVector, List.length_append, List.length_take, List.length_take]
      omega
    exact { h with rleRange := hwf, rleCount := hcount.trans hlen }

end

end Sys2Proof.Machine
end

section
/-! PROOFS. Each instruction as one operation on states: `exec` ends it (R83). -/

namespace Sys2Proof.Machine

/-- An element of the stream as an operation: its bits, unless its value is excluded (R65, R81, R86). -/
def writeElement (i : Instr) (s : State) : Result :=
  if i.wf then
    match i.element? with
    | some (.field v n) => .ok (s.emit (lsbBits v n))
    | some (.coded a x v n) => writeCoded a x v n s
    | none => .ok s
  else raise .internal s

/-- The operation of an instruction. -/
def operation (i : Instr) (s : State) : Result :=
  match i with
  | .appendBit b => opAppendBit b s
  | .appendBitsLsb v n => opAppendBitsLsb v n s
  | .appendBitsMsb v n => opAppendBitsMsb v n s
  | .finalize => opFinalize Config.defaultMaxInput s
  | .lengthLookup l => opLengthLookup l s
  | .distLookup d => opDistLookup d s
  | .lzSearch => opLzSearch Config.defaultMaxInput s
  | .lzStep => opLzStep Config.defaultMaxInput s
  | .lz77 => opLz77 Config.defaultMaxInput s
  | .tally => opTally s
  | .huffLeaves a => opHuffLeaves a s
  | .huffMerge => opHuffMerge s
  | .huffExtract a => opHuffExtract a s
  | .huffLimit a => opHuffLimit params.limiter a s
  | .huffCanon a => opHuffCanon a s
  | .huffBuild a => opHuffBuild params.limiter a s
  | .clRle => opClRle s
  | .clTally => opClTally s
  | .sizeHlit => opSizeHlit s
  | .sizeHdist => opSizeHdist s
  | .sizeHclen => opSizeHclen s
  | .writeHeader => opWriteHeader s
  | .writeCllens => opWriteCllens s
  | .writeRle => opWriteRle s
  | .writeLiteral b => opWriteLiteral b s
  | .writeMatch l d => opWriteMatch l d s
  | .writeTokens => opWriteTokens s
  | .writeEob => opWriteEob s
  | .compress => opCompress params s
  | .pad => opPad Config.defaultMaxInput s
  | i => writeElement i s

theorem exec_field_of_not_wf {i : Instr} {v n : Nat} (s : State) (h : i.element? = some (.field v n))
    (hwf : i.wf = false) : exec i s = .next (s.errorEntry .internal) := by
  have field {v n top : Nat} (hv : ¬ v ≤ top) :
      finish (writeField v n top s) = .next (s.errorEntry .internal) := by
    rw [writeField, if_neg hv, finish_raise]
  cases i <;> simp only [Instr.element?, Option.some.injEq, reduceCtorEq] at h <;>
    simp only [Instr.wf, Bool.true_eq_false] at hwf
  case hlit a | hdist a => exact field (of_decide_eq_false hwf)

theorem exec_element {i : Instr} (s : State) (h : i.element? ≠ none) : exec i s = finish (writeElement i s) := by
  obtain ⟨e, he⟩ := Option.ne_none_iff_exists'.mp h
  unfold writeElement
  cases hwf : i.wf with
  | true =>
    cases e with
    | field v n => simp only [he, exec_field s he hwf, if_true, finish_ok]
    | coded a x v n => simp only [he, exec_coded s he hwf, if_true]
  | false =>
    cases e with
    | field v n => rw [exec_field_of_not_wf s he hwf]; rfl
    | coded a x v n => rw [exec_coded_of_not_wf s he hwf]; rfl

theorem exec_eq_operation (i : Instr) (s : State) : exec i s = finish (operation i s) := by
  cases i
  case appendBit | appendBitsLsb | appendBitsMsb | finalize | lengthLookup | distLookup | lzSearch | lzStep | lz77 |
      tally | huffLeaves | huffMerge | huffExtract | huffLimit | huffCanon | huffBuild | clRle | clTally | sizeHlit |
      sizeHdist | sizeHclen | writeHeader | writeCllens | writeRle | writeLiteral | writeMatch | writeTokens |
      writeEob | compress | pad => rfl
  all_goals exact exec_element s (Option.some_ne_none _)

theorem writeElement_framed (i : Instr) : Framed (writeElement i) := by
  unfold writeElement
  cases i.wf with
  | false => exact Framed.raise _
  | true =>
    cases i.element? with
    | none => exact fun _ _ => rfl
    | some e =>
      cases e with
      | field v n => exact Framed.append _
      | coded a x v n => exact writeCoded_framed a x v n

/-- Only COMPRESS writes control fields. -/
theorem operation_framed {i : Instr} (h : i ≠ .compress) : Framed (operation i) := by
  cases i
  case appendBit | appendBitsLsb | appendBitsMsb => exact Framed.append _
  case finalize => exact opFinalize_framed _
  case lengthLookup l => exact opLengthLookup_framed l
  case distLookup d => exact opDistLookup_framed d
  case lzSearch => exact opLzSearch_framed _
  case lzStep => exact opLzStep_framed _
  case lz77 => exact opLz77_framed _
  case tally => exact opTally_framed
  case huffLeaves a => exact opHuffLeaves_framed a
  case huffMerge => exact opHuffMerge_framed
  case huffExtract a => exact opHuffExtract_framed a
  case huffLimit a => exact opHuffLimit_framed _ a
  case huffCanon a => exact opHuffCanon_framed a
  case huffBuild a => exact opHuffBuild_framed _ a
  case clRle => exact opClRle_framed
  case clTally => exact opClTally_framed
  case sizeHlit => exact opSizeHlit_framed
  case sizeHdist => exact opSizeHdist_framed
  case sizeHclen => exact opSizeHclen_framed
  case writeHeader => exact opWriteHeader_framed
  case writeCllens => exact opWriteCllens_framed
  case writeRle => exact opWriteRle_framed
  case writeLiteral b => exact writeSymbol_framed .ll b.toNat
  case writeMatch l d => exact opWriteMatch_framed l d
  case writeTokens => exact opWriteTokens_framed
  case writeEob => exact writeSymbol_framed .ll Config.eobSymbol
  case compress => exact absurd rfl h
  case pad => exact opPad_framed _
  all_goals exact writeElement_framed _

theorem Reaches.writeElement {spill : Prop} {s : State} (i : Instr) : Reaches spill s (writeElement i s) := by
  unfold Machine.writeElement
  split
  · split
    · exact .emit _
    · exact .writeCoded _ _ _ _
    · exact .of_data rfl id
  · exact .raise

/-- An operation other than COMPRESS keeps the data, raises only Internal, and faults on OUT only if the bits fill more
bytes than there are. -/
theorem Reaches.operation {i : Instr} (h : i ≠ .compress) (s : State) :
    Reaches (Config.outMax Config.defaultMaxInput < (s.nbits + 7) / 8) s (operation i s) := by
  cases i
  case appendBit | appendBitsLsb | appendBitsMsb => exact .emit _
  case finalize => exact .opFinalize
  case lengthLookup l => exact .opLengthLookup l
  case distLookup d => exact .opDistLookup d
  case lzSearch => exact .opLzSearch
  case lzStep => exact .opLzStep
  case lz77 => exact .opLz77
  case tally => exact .opTally
  case huffLeaves a => exact .opHuffLeaves a
  case huffMerge => exact .opHuffMerge
  case huffExtract a => exact .opHuffExtract a
  case huffLimit a => exact .opHuffLimit a
  case huffCanon a => exact .opHuffCanon a
  case huffBuild a => exact .opHuffBuild a
  case clRle => exact .opClRle
  case clTally => exact .opClTally
  case sizeHlit => exact .opSizeHlit
  case sizeHdist => exact .opSizeHdist
  case sizeHclen => exact .opSizeHclen
  case writeHeader => exact .opWriteHeader
  case writeCllens => exact .opWriteCllens
  case writeRle => exact .opWriteRle
  case writeLiteral b => exact .writeSymbol .ll b.toNat
  case writeMatch l d => exact .opWriteMatch l d
  case writeTokens => exact .opWriteTokens
  case writeEob => exact .writeSymbol .ll Config.eobSymbol
  case compress => exact absurd rfl h
  case pad => exact .opPad
  all_goals exact .writeElement _

end Sys2Proof.Machine
end

section
/-! PROOFS. The sequencer (R18, R166): its moves, whether the host is silent or lets each of them happen, compute
COMPRESS. -/

namespace Sys2Proof.Machine

/-- The host is silent, or lets the engine make the next `k` moves. -/
def Waits (k : Nat) (h : List HostTurn) : Prop := h = [] ∨ h = List.replicate k .wait

/-- The state with given issued operations and a given schedule. -/
def State.queued (s : State) (q : List OpWord) (h : List HostTurn) : State := { s with opq := q, hostQ := h }

theorem step_waits {k : Nat} {h : List HostTurn} (hw : Waits (k + 1) h) :
    ∃ h', Waits k h' ∧ ∀ s : State, s.hostQ = h → step s = engineStep { s with hostQ := h' } := by
  rcases hw with rfl | rfl
  · refine ⟨[], .inl rfl, fun s hs => ?_⟩
    rw [step_silent hs, ← hs]
  · exact ⟨List.replicate k .wait, .inr rfl, fun s hs => step_wait hs⟩

theorem run_next {k : Nat} {s t : State} (h : step s = .next t) :
    Host.Core.run Sys2Proof.core (k + 1) s = Host.Core.run Sys2Proof.core k t := by
  have hstep : Sys2Proof.core.step s = .next t := h
  simp only [Host.Core.run, hstep]

theorem run_fault {k : Nat} {s : State} {x : Fault} (h : step s = .fault x) :
    Host.Core.run Sys2Proof.core (k + 1) s = .fault x := by
  have hstep : Sys2Proof.core.step s = .fault x := h
  simp only [Host.Core.run, hstep]

/-- Once BUSY=0 nothing but the schedule changes (R165, R189). -/
theorem run_not_busy {k : Nat} {s : State} {h : List HostTurn} (hbusy : s.busy = false) (hsilent : s.hostQ = [])
    (hw : Waits k h) : Host.Core.run Sys2Proof.core k { s with hostQ := h } = .next s := by
  induction k generalizing h with
  | zero =>
    have hnil : h = [] := hw.elim id id
    show Host.Outcome.next { s with hostQ := h } = .next s
    rw [hnil, ← hsilent]
  | succ k ih =>
    obtain ⟨h', hw', hstep⟩ := step_waits hw
    have hmove : step { s with hostQ := h } = .next { s with hostQ := h' } :=
      (hstep { s with hostQ := h } rfl).trans (engineStep_not_busy (s := { s with hostQ := h' }) hbusy)
    rw [run_next hmove, ih hw']

/-- `k` moves from `s` with `q` issued end as the result says. -/
def Simulates (k : Nat) (q : List OpWord) (s : State) (r : Result) : Prop :=
  ∀ h, Waits k h → Host.Core.run Sys2Proof.core k (s.queued q h) = finish r

/-- An operation's early end is an error entry, after which the engine is quiet, or a fault. -/
theorem operation_raised {i : Instr} (hi : i ≠ .compress) {s u : State} (h : operation i s = .error (.raised u)) :
    u.busy = false ∧ u.hostQ = s.hostQ := by
  obtain ⟨v, rfl, -, -⟩ := (Reaches.operation hi s).raised u h
  have hframe : operation i s = underControl s.control (operation i s) := operation_framed hi s.control s
  rw [h, underControl] at hframe
  have hhost := congrArg State.hostQ (Stop.raised.inj (Except.error.inj hframe))
  exact ⟨rfl, hhost⟩

/-- One move runs the first issued operation. -/
theorem simulates_operation {k : Nat} {q : List OpWord} {i : Instr} {s : State} {g : State → Result}
    (hi : i ≠ .compress) (hwf : i.wf = true) (hbusy : s.busy = true) (hsilent : s.hostQ = [])
    (hg : ∀ t : State, t.control = s.control → Simulates k q t (g t)) :
    Simulates (k + 1) (encode i :: q) s (andThen (operation i s) g) := by
  intro h hw
  obtain ⟨h', hw', hstep⟩ := step_waits hw
  have hmove : step (s.queued (encode i :: q) h) =
      finish (underControl { s.control with opq := q, hostQ := h' } (operation i s)) :=
    calc step (s.queued (encode i :: q) h)
        = engineStep (s.queued (encode i :: q) h') := hstep (s.queued (encode i :: q) h) rfl
      _ = exec i (s.queued q h') :=
        engineStep_issued (s := s.queued (encode i :: q) h') hbusy rfl (decode_encode hwf)
      _ = finish (operation i (s.queued q h')) := exec_eq_operation i _
      _ = _ := congrArg finish (operation_framed hi { s.control with opq := q, hostQ := h' } s)
  cases hr : operation i s with
  | ok t =>
    have hcontrol := (operation_framed hi).control_eq hr
    have hunder : t.under { s.control with opq := q, hostQ := h' } = t.queued q h' := by
      rw [← hcontrol]
      rfl
    rw [hr, underControl, finish_ok, hunder] at hmove
    rw [run_next hmove, hg t hcontrol h' hw', andThen_ok]
  | error e =>
    rw [hr] at hmove
    cases e with
    | raised u =>
      obtain ⟨hquiet, hhost⟩ := operation_raised hi hr
      rw [run_next hmove]
      exact run_not_busy hquiet (hhost.trans hsilent) hw'
    | fault x => exact run_fault hmove

/-- The operations of a phase, one after the other. -/
def runOps : List Instr → State → Result
  | [], s => .ok s
  | i :: is, s => andThen (operation i s) (runOps is)

/-- The remaining phases in their order, and completion (R167, R169). -/
def runPhases : List Phase → State → Result
  | [], s => .ok s.complete
  | ph :: phs, s => andThen (setPhase ph s) fun s => andThen (runOps (phaseOps ph) s) (runPhases phs)

/-- The phases after LZ77 (R18). -/
def laterPhases : List Phase :=
  [.tally, .huffLL, .huffDD, .sizesRle, .huffCL, .writeHdr, .writeCllen, .writeRle, .writeTok, .writeEob, .finalize]

theorem andThen_ok_right (r : Result) : (andThen r fun s => .ok s) = r := by
  cases r <;> rfl

theorem opCompress_eq_runPhases (s : State) :
    opCompress params s = andThen (sizeCheck params.maxInput s) (runPhases (.lz77 :: laterPhases)) := by
  simp only [opCompress, codingPhases, writingPhases, laterPhases, runPhases, phaseOps, runOps, operation, andThen_assoc,
    andThen_ok_right, show params.maxInput = Config.defaultMaxInput from rfl]

theorem simulates_ops {k : Nat} {is : List Instr} {s : State} {g : State → Result}
    (his : ∀ i ∈ is, i ≠ .compress ∧ i.wf = true) (hbusy : s.busy = true) (hsilent : s.hostQ = [])
    (hg : ∀ t : State, t.control = s.control → Simulates k [] t (g t)) :
    Simulates (is.length + k) (is.map encode) s (andThen (runOps is s) g) := by
  induction is generalizing s with
  | nil => simpa [runOps] using hg s rfl
  | cons i is ih =>
    obtain ⟨hi, hwf⟩ := his i List.mem_cons_self
    rw [runOps, andThen_assoc, List.length_cons, Nat.add_right_comm]
    refine simulates_operation hi hwf hbusy hsilent fun t ht => ?_
    exact ih (fun j hj => his j (List.mem_cons_of_mem i hj)) ((congrArg Control.busy ht).trans hbusy)
      ((congrArg Control.hostQ ht).trans hsilent) fun u hu => hg u (hu.trans ht)

theorem phaseOps_issuable (ph : Phase) : ∀ i ∈ phaseOps ph, i ≠ .compress ∧ i.wf = true := by
  cases ph <;> decide

/-- One move, when nothing is issued, ends the phase. -/
theorem simulates_advance {k : Nat} {q : List OpWord} {s t : State} {r : Result} (hbusy : s.busy = true)
    (hadvance : ∀ h, advance Config.defaultMaxInput (s.queued [] h) = .ok (t.queued q h)) (ht : Simulates k q t r) : Simulates (k + 1) [] s r := by
  intro h hw
  obtain ⟨h', hw', hstep⟩ := step_waits hw
  have hmove : step (s.queued [] h) = .next (t.queued q h') :=
    (hstep (s.queued [] h) rfl).trans ((engineStep_idle (s := s.queued [] h') hbusy rfl).trans
      (congrArg finish (hadvance h')))
  rw [run_next hmove, ht h' hw']

/-- How many moves the remaining phases take: one into each, one for each operation, and completion. -/
def movesOf (phs : List Phase) : Nat := (phs.map fun ph => (phaseOps ph).length + 1).sum + 1

/-- From the end of a phase on. -/
theorem simulates_phases {phs : List Phase} {ph : Phase} (hchain : (ph :: phs).IsChain fun a b => (a, b) ∈ phaseMoves)
    (hlast : (ph :: phs).getLast? = some .finalize) {s : State} (hbusy : s.busy = true) (hsilent : s.hostQ = [])
    (hphase : s.phase = ph) : Simulates (movesOf phs) [] s (runPhases phs s) := by
  induction phs generalizing ph s with
  | nil =>
    obtain rfl : ph = .finalize := Option.some.inj hlast
    refine simulates_advance (q := []) (t := s.complete) hbusy (fun h => ?_) fun h hw => ?_
    · exact advance_finalize (s := s.queued [] h) hphase
    · have hnil : h = [] := hw.elim id id
      show Host.Outcome.next (s.complete.queued [] h) = .next s.complete
      rw [hnil, ← hsilent]
      rfl
  | cons ph' phs ih =>
    obtain ⟨hmove, hrest⟩ := List.isChain_cons_cons.mp hchain
    have hops := simulates_ops (k := movesOf phs) (g := runPhases phs) (s := { s with phase := ph' })
      (phaseOps_issuable ph') hbusy hsilent fun t ht => ih hrest (by simpa using hlast)
        ((congrArg Control.busy ht).trans hbusy) ((congrArg Control.hostQ ht).trans hsilent) (congrArg Control.phase ht)
    have hcount : movesOf (ph' :: phs) = (phaseOps ph').length + movesOf phs + 1 := by
      simp only [movesOf, List.map_cons, List.sum_cons]
      omega
    rw [hcount]
    exact simulates_advance (t := { s with phase := ph' }) hbusy
      (fun h => advance_phaseMove (s := s.queued [] h) hmove hphase) hops

theorem laterPhases_chain : (.lz77 :: laterPhases).IsChain fun a b => (a, b) ∈ phaseMoves := by
  simp [laterPhases, phaseMoves]

/-- 29 moves from phase IDLE end as COMPRESS does: the size check, then the phases. -/
theorem simulates_compress {s : State} (hbusy : s.busy = true) (hsilent : s.hostQ = []) (hphase : s.phase = .idle) :
    Simulates 29 [] s (opCompress params s) := by
  have hcount : 29 = (phaseOps .lz77).length + movesOf laterPhases + 1 := rfl
  have hidle (h : List HostTurn) : advance Config.defaultMaxInput (s.queued [] h) =
      andThen (sizeCheck Config.defaultMaxInput (s.queued [] h)) fun s => .ok (s.enter .lz77) :=
    advance_idle (s := s.queued [] h) hphase
  intro h hw
  rw [opCompress_eq_runPhases]
  rcases Nat.lt_or_ge Config.defaultMaxInput s.n with hlarge | hfit
  · rw [sizeCheck_raise (maxInput := params.maxInput) hlarge, andThen_raise, finish_raise]
    obtain ⟨h', hw', hstep⟩ := step_waits hw
    have hmove : step (s.queued [] h) = .next { s.errorEntry .inputTooLarge with hostQ := h' } := by
      refine (hstep (s.queued [] h) rfl).trans ((engineStep_idle (s := s.queued [] h') hbusy rfl).trans ?_)
      rw [hidle, sizeCheck_raise (s := s.queued [] h') hlarge, andThen_raise, finish_raise]
      rfl
    rw [run_next hmove]
    exact run_not_busy rfl hsilent hw'
  · rw [sizeCheck_ok (maxInput := params.maxInput) hfit, andThen_ok, hcount, runPhases, setPhase, andThen_ok]
    have hops := simulates_ops (k := movesOf laterPhases) (g := runPhases laterPhases)
      (s := { s with phase := .lz77 }) (phaseOps_issuable .lz77) hbusy hsilent fun t ht =>
        simulates_phases laterPhases_chain rfl ((congrArg Control.busy ht).trans hbusy)
        ((congrArg Control.hostQ ht).trans hsilent) (congrArg Control.phase ht)
    have hadvance (h : List HostTurn) : advance Config.defaultMaxInput (s.queued [] h) =
        .ok (State.queued { s with phase := .lz77 } ((phaseOps .lz77).map encode) h) := by
      rw [hidle, sizeCheck_ok (s := s.queued [] h) hfit, andThen_ok]
      rfl
    exact simulates_advance hbusy hadvance hops h hw

/-- 29 moves from phase IDLE with a silent host. -/
theorem run_eq_compress {s : State} (hbusy : s.busy = true) (hsilent : s.hostQ = []) (hq : s.opq = [])
    (hphase : s.phase = .idle) : Host.Core.run Sys2Proof.core 29 s = finish (opCompress params s) := by
  have hself : s.queued [] [] = s := by
    rw [← hq, ← hsilent]
    rfl
  have hrun := simulates_compress hbusy hsilent hphase [] (.inl rfl)
  rwa [hself] at hrun

/-- Settles O15: the moves are those of `simulates_compress`. -/
theorem sequencerComputesCompress : Obligations.SequencerComputesCompress :=
  fun _ hbusy hsilent hq hphase => run_eq_compress hbusy hsilent hq hphase

/-- Settles O16: an accepted START is a state from which the moves compute COMPRESS, whose two ends are known. -/
theorem everyStartEnds : Obligations.EveryStartEnds := by
  intro s hsilent
  have hrun := run_eq_compress (s := s.start) rfl hsilent rfl rfl
  rcases Nat.lt_or_ge Config.defaultMaxInput s.inLen.toNat with hlarge | hfit
  · rw [opCompress_tooLarge (P := params) (s := s.start) hlarge, finish_raise] at hrun
    exact ⟨_, hrun, rfl, fun hfit => absurd hlarge (Nat.not_lt.mpr hfit), fun _ =>
      ⟨rfl, rfl, rfl, rfl, rfl, rfl, rfl⟩⟩
  · obtain ⟨t, u, hu, -, hbusy, hdone, herr, hcode, hphase, hbits, hlen, hbytes⟩ :=
      opCompress_block params_conforming (s := s) hfit
    rw [hu, finish_ok] at hrun
    refine ⟨u, hrun, hbusy, fun _ => ⟨hdone, herr, hcode, hphase, ?_, ?_⟩, fun hlarge =>
      absurd hlarge (Nat.not_lt.mpr hfit)⟩
    · rw [hlen, State.nbits, hbits]
    · rw [hbytes, hbits]

end Sys2Proof.Machine
end

section
/-! PROOFS. A host that follows the protocol (R172, R193): its writes put the input into IN, and the moves it lets happen
compress it. -/

namespace Sys2Proof.Machine

/-- IN after the host's writes of some bytes at rising indices. -/
def writeInput (m : List Host.Cell) (es : List (Byte × Nat)) : List Host.Cell :=
  es.foldl (fun m e => Memory.write m e.2 e.1) m

theorem read_writeInput_of_lt {X : List Byte} {m : List Host.Cell} {a n : Nat} (h : a < n) :
    Memory.read (writeInput m (X.zipIdx n)) a = Memory.read m a := by
  induction X generalizing m n with
  | nil => rfl
  | cons x X ih =>
    rw [List.zipIdx_cons, writeInput, List.foldl_cons]
    exact (ih (Nat.lt_succ_of_lt h)).trans (Memory.read_write_other m n a x (Nat.ne_of_lt h))

theorem read_writeInput {X : List Byte} {m : List Host.Cell} {n i : Nat} (h : i < X.length) :
    Memory.read (writeInput m (X.zipIdx n)) (n + i) = some X[i] := by
  induction X generalizing m n i with
  | nil => exact absurd h (Nat.not_lt_zero i)
  | cons x X ih =>
    rw [List.zipIdx_cons, writeInput, List.foldl_cons]
    cases i with
    | zero => exact (read_writeInput_of_lt (Nat.lt_succ_self n)).trans (Memory.read_write_same m n x)
    | succ i =>
      rw [show n + (i + 1) = n + 1 + i by omega]
      exact ih (Nat.lt_of_succ_lt_succ h)

theorem run_writes {es : List (Byte × Nat)} {k : Nat} {q : List HostTurn} {s : State} (hbusy : s.busy = false)
    (hq : s.hostQ = es.map (fun e => .act (.writeIn e.2 e.1)) ++ q) (hin : ∀ e ∈ es, e.2 < Config.defaultMaxInput) :
    Host.Core.run Sys2Proof.core (es.length + k) s =
      Host.Core.run Sys2Proof.core k { s with inp := writeInput s.inp es, hostQ := q } := by
  induction es generalizing s with
  | nil =>
    have hself : { s with hostQ := q } = s := by
      rw [← show s.hostQ = q from hq]
    rw [List.length_nil, Nat.zero_add]
    exact congrArg (Host.Core.run Sys2Proof.core k) hself.symm
  | cons e es ih =>
    have hmove : step s = .next { s with
        inp := Memory.write s.inp e.2 e.1, hostQ := es.map (fun e => .act (.writeIn e.2 e.1)) ++ q } :=
      (step_act hq).trans (hostWriteIn_not_busy (s := { s with
        hostQ := es.map (fun e => .act (.writeIn e.2 e.1)) ++ q }) hbusy (hin e List.mem_cons_self))
    rw [List.length_cons, Nat.add_right_comm, run_next hmove]
    exact ih (s := { s with
      inp := Memory.write s.inp e.2 e.1, hostQ := es.map (fun e => .act (.writeIn e.2 e.1)) ++ q }) hbusy rfl
      fun d hd => hin d (List.mem_cons_of_mem e hd)

/-- The state after the host's writes of the bytes of X and of their number. -/
def State.fed (s : State) (X : List Byte) : State :=
  { s with inp := writeInput s.inp X.zipIdx, inLen := BitVec.ofNat 32 X.length, hostQ := [] }

theorem State.inLen_fed (s : State) {X : List Byte} (h : X.length ≤ Config.defaultMaxInput) :
    (s.fed X).inLen.toNat = X.length :=
  Nat.mod_eq_of_lt (Nat.lt_of_le_of_lt h (by decide))

theorem State.nextInput_fed (s : State) {X : List Byte} (h : X.length ≤ Config.defaultMaxInput) :
    (s.fed X).nextInput = X := by
  refine List.ext_getElem (by rw [State.nextInput, s.inLen_fed h]; simp) fun i hi hi' => ?_
  have hread := read_writeInput (m := s.inp) (n := 0) hi'
  rw [Nat.zero_add] at hread
  simp only [State.nextInput, List.getElem_map, List.getElem_range, State.inByte]
  exact congrArg (Option.getD · _) hread

theorem hostWriteInLen_not_busy {v : RegWord} {s : State} (h : s.busy = false) :
    hostWriteInLen v s = .next { s with inLen := v } :=
  if_neg (by simp [h])

/-- The host's writes, START, and then 29 moves from the state it leaves. -/
theorem run_hostProgram {s : State} {X : List Byte} (hbusy : s.busy = false) (hlen : X.length ≤ Config.defaultMaxInput)
    (hq : s.hostQ = hostProgram X) : Host.Core.run Sys2Proof.core (X.length + 31) s =
      Host.Core.run Sys2Proof.core 29 ((s.fed X).start.queued [] (List.replicate 29 .wait)) := by
  have hwrites := run_writes (s := s) (es := X.zipIdx) (k := 31) hbusy (q :=
    [.act (.writeReg 3 (BitVec.ofNat 32 X.length)), .act (.writeReg 0 1)] ++ List.replicate 29 .wait)
    (by rw [hq, hostProgram, List.append_assoc]) fun e he => by
      obtain ⟨-, hlt, -⟩ := List.mem_zipIdx he
      rw [Nat.zero_add] at hlt
      exact Nat.lt_of_lt_of_le hlt hlen
  have hlenStep : step { s with
        inp := writeInput s.inp X.zipIdx
        hostQ := [.act (.writeReg 3 (BitVec.ofNat 32 X.length)), .act (.writeReg 0 1)] ++ List.replicate 29 .wait } =
      .next { s.fed X with hostQ := .act (.writeReg 0 1) :: List.replicate 29 .wait } := by
    rw [step_act rfl]
    exact hostWriteInLen_not_busy (s := { s with
      inp := writeInput s.inp X.zipIdx, hostQ := .act (.writeReg 0 1) :: List.replicate 29 .wait }) hbusy
  have hstart : step { s.fed X with hostQ := .act (.writeReg 0 1) :: List.replicate 29 .wait } =
      .next ((s.fed X).start.queued [] (List.replicate 29 .wait)) := by
    rw [step_act rfl, hostStep_writeCtrl]
    exact congrArg Host.Outcome.next (hostWriteCtrl_start (v := 1)
      (s := { s.fed X with hostQ := List.replicate 29 .wait }) hbusy (by decide))
  rw [List.length_zipIdx] at hwrites
  rw [hwrites, run_next hlenStep, run_next hstart]

/-- Settles O21: the host's writes make X the next input, and 29 moves compress it, by `simulates_compress`. -/
theorem hostProtocolRoundTrip : Obligations.HostProtocolRoundTrip := by
  intro s X hbusy hlen hq
  obtain ⟨t, u, hu, hblock, hquiet, hdone, herr, hcode, -, -, -, hbytes⟩ :=
    opCompress_block params_conforming (s := s.fed X) (Nat.le_trans (s.inLen_fed hlen).le hlen)
  rw [s.nextInput_fed hlen] at hblock
  have hrun := simulates_compress (s := (s.fed X).start) rfl rfl rfl (List.replicate 29 .wait) (.inr rfl)
  rw [hu, finish_ok] at hrun
  exact ⟨u, bitsToBytes (blockBits t), (run_hostProgram hbusy hlen hq).trans hrun, hquiet, hdone, herr, hcode, hbytes,
    hblock.inflate params_conforming.2⟩

end Sys2Proof.Machine
end

section
/-! PROOFS. A move of the engine in a state of the invariant (R14, R83, R165, R176, R179, R189): what it can do. -/

namespace Sys2Proof.Machine

theorem State.Inv.data {s : State} (h : s.Inv) : s.Data := { h with }

/-- The invariant while BUSY=1. -/
structure State.Running (s : State) : Prop where
  busy : s.busy = true
  notDone : s.done = false
  notErr : s.err = false
  noError : s.errcode = .none
  phaseNotDone : s.phase ≠ .done
  phaseNotError : s.phase ≠ .error
  issued : ∀ w ∈ s.opq, ∃ i, decode w = .ok i
  inputFits : s.phase ≠ .idle → s.n ≤ Config.defaultMaxInput
  data : s.Data

theorem State.Inv.running {s : State} (h : s.Inv) (hbusy : s.busy = true) : s.Running := by
  obtain ⟨hdone, herr⟩ := h.busyAlone hbusy
  exact {
    busy := hbusy
    notDone := hdone
    notErr := herr
    noError := not_not.mp (mt h.errcodeErr.mpr (by simp [herr]))
    phaseNotDone := mt h.phaseDone.mpr (by simp [hdone])
    phaseNotError := mt h.phaseError.mpr (by simp [herr])
    issued := h.issued
    inputFits := h.inputFits hbusy
    data := h.data }

theorem State.Running.inv {s : State} (h : s.Running) : s.Inv :=
  { h.data with
    busyAlone := fun _ => ⟨h.notDone, h.notErr⟩
    doneAlone := fun _ => h.notErr
    phaseDone := iff_of_false (by simp [h.notDone]) h.phaseNotDone
    phaseError := iff_of_false (by simp [h.notErr]) h.phaseNotError
    phaseIdle := fun hbusy => absurd h.busy (by simp [hbusy])
    errcodeErr := iff_of_false (by simp [h.notErr]) (not_not.mpr h.noError)
    quiet := fun hbusy => absurd h.busy (by simp [hbusy])
    issued := h.issued
    inputFits := fun _ => h.inputFits
    noResult := fun hbusy => absurd h.busy (by simp [hbusy]) }

/-- Error entry gives a state of the invariant (R179). -/
theorem State.Data.errorEntry_inv {v : State} (h : v.Data) {e : ErrCode} (he : e ≠ .none) : (v.errorEntry e).Inv :=
  { h with
    busyAlone := fun hbusy => by cases hbusy
    doneAlone := fun hdone => by cases hdone
    phaseDone := iff_of_false Bool.false_ne_true (by simp)
    phaseError := iff_of_true rfl rfl
    phaseIdle := fun _ _ herr => by cases herr
    errcodeErr := iff_of_true rfl he
    quiet := fun _ => rfl
    issued := fun w hw => by cases hw
    inputFits := fun hbusy => by cases hbusy
    noResult := fun _ _ => rfl
    outListed := fun k hk => absurd hk (Nat.not_lt_zero k) }

/-- Completion gives a state of the invariant (R169). -/
theorem State.Data.complete_inv {v : State} (h : v.Data) (herr : v.err = false) (hcode : v.errcode = .none) :
    v.complete.Inv :=
  have hnot : ¬ v.err = true := by simp [herr]
  { h with
    busyAlone := fun hbusy => by cases hbusy
    doneAlone := fun _ => herr
    phaseDone := iff_of_true rfl rfl
    phaseError := iff_of_false hnot (by simp)
    phaseIdle := fun _ hdone => by cases hdone
    errcodeErr := iff_of_false hnot (not_not.mpr hcode)
    quiet := fun _ => rfl
    issued := fun w hw => by cases hw
    inputFits := fun hbusy => by cases hbusy
    noResult := fun _ hdone => by cases hdone }

/-- An operation that leaves the control fields leaves the engine running. -/
theorem State.Running.of_control {s t : State} (h : s.Running) (hcontrol : t.control = s.control) (hn : t.n = s.n)
    (hdata : t.Data) : t.Running where
  busy := (congrArg Control.busy hcontrol).trans h.busy
  notDone := (congrArg Control.done hcontrol).trans h.notDone
  notErr := (congrArg Control.err hcontrol).trans h.notErr
  noError := (congrArg Control.errcode hcontrol).trans h.noError
  phaseNotDone := (congrArg Control.phase hcontrol).trans_ne h.phaseNotDone
  phaseNotError := (congrArg Control.phase hcontrol).trans_ne h.phaseNotError
  issued w hw := by
    have hopq : t.opq = s.opq := congrArg Control.opq hcontrol
    exact h.issued w (hopq ▸ hw)
  inputFits hphase := hn ▸ h.inputFits ((congrArg Control.phase hcontrol).symm.trans_ne hphase)
  data := hdata

theorem State.Running.enter {s : State} (h : s.Running) {ph : Phase} (hdone : ph ≠ .done) (herror : ph ≠ .error)
    (hn : s.n ≤ Config.defaultMaxInput) : (s.enter ph).Running :=
  { h with
    phaseNotDone := hdone
    phaseNotError := herror
    issued := fun w hw => by
      obtain ⟨i, hi, rfl⟩ := List.mem_map.mp hw
      exact ⟨i, decode_encode (phaseOps_issuable ph i hi).2⟩
    inputFits := fun _ => hn
    data := { h.data with } }

/-- What a move of the engine answers: the first issued operation is done, the next phase begins, the operation ends in
DONE (from the last phase, or because COMPRESS was issued) or in ERROR, or an index of a buffer does not exist. -/
inductive EngineMove (s : State) : Host.Outcome State Fault Refusal → Prop where
  | operation {t : State} {w : OpWord} (running : t.Running) (phase : t.phase = s.phase) (opq : s.opq = w :: t.opq) :
      EngineMove s (.next t)
  | enter {t : State} (running : t.Running) (phase : t.phase.code = s.phase.code + 1)
      (opq : t.opq = (phaseOps t.phase).map encode) : EngineMove s (.next t)
  | complete {t : State} (inv : t.Inv) (phase : t.phase = .done) (opq : t.opq = [])
      (last : s.phase = .finalize ∨ s.opq.head? = some (encode .compress)) : EngineMove s (.next t)
  | raised {t : State} (inv : t.Inv) (phase : t.phase = .error) (opq : t.opq = []) : EngineMove s (.next t)
  | inFault (large : Config.defaultMaxInput < s.n) : EngineMove s (.fault .inputAddress)
  | outFault (spill : Config.outMax Config.defaultMaxInput < (s.nbits + 7) / 8 ∨
      s.opq.head? = some (encode .compress) ∧ s.nbits ≠ 0) : EngineMove s (.fault .outputAddress)

theorem EngineMove.errorEntry {s v : State} (h : v.Data) {e : ErrCode} (he : e ≠ .none) :
    EngineMove s (.next (v.errorEntry e)) := .raised (h.errorEntry_inv he) rfl rfl

theorem engineMove_operation {s : State} (h : s.Running) {i : Instr} (hi : i ≠ .compress) {w : OpWord}
    {rest : List OpWord} (hq : s.opq = w :: rest) : EngineMove s (exec i { s with opq := rest }) := by
  have hrest : State.Running { s with opq := rest } :=
    { h with
      issued := fun v hv => h.issued v (hq ▸ List.mem_cons_of_mem w hv)
      data := { h.data with } }
  have hreach := Reaches.operation hi { s with opq := rest }
  rw [exec_eq_operation]
  cases hr : operation i { s with opq := rest } with
  | ok t =>
    obtain ⟨hn, hdata⟩ := hreach.ok t hr
    have hcontrol := (operation_framed hi).control_eq hr
    have hopq : t.opq = rest := congrArg Control.opq hcontrol
    exact .operation (hrest.of_control hcontrol hn (hdata hrest.data)) (congrArg Control.phase hcontrol) (hopq ▸ hq)
  | error e =>
    cases e with
    | raised u =>
      obtain ⟨v, rfl, -, hdata⟩ := hreach.raised u hr
      exact .errorEntry (hdata hrest.data) (by decide)
    | fault x =>
      cases x with
      | inputAddress => exact .inFault (hreach.inFault hr)
      | outputAddress => exact .outFault (.inl (hreach.outFault hr))

theorem Reaches.mono {spill spill' : Prop} {s : State} {r : Result} (h : Reaches spill s r) (hspill : spill → spill') :
    Reaches spill' s r := { h with outFault := fun hr => hspill (h.outFault hr) }

theorem Reaches.runOps {is : List Instr} (his : ∀ i ∈ is, i ≠ .compress) (s : State) :
    Reaches True s (runOps is s) := by
  induction is generalizing s with
  | nil => exact .of_data rfl id
  | cons i is ih =>
    exact ((Reaches.operation (his i List.mem_cons_self) s).mono fun _ => trivial).andThen fun t _ =>
      ih (fun j hj => his j (List.mem_cons_of_mem i hj)) t

theorem runOps_framed {is : List Instr} (his : ∀ i ∈ is, i ≠ .compress) : Framed (runOps is) := by
  induction is with
  | nil => exact fun _ _ => rfl
  | cons i is ih =>
    exact (operation_framed (his i List.mem_cons_self)).andThen (ih fun j hj => his j (List.mem_cons_of_mem i hj))

/-- The phases end in completion, in an error, or in a fault on OUT. -/
theorem engineMove_runPhases {s₀ : State} (hcompress : s₀.opq.head? = some (encode .compress)) {phs : List Phase}
    {s : State} (hdata : s.Data) (herr : s.err = false) (hcode : s.errcode = .none)
    (hn : s.n ≤ Config.defaultMaxInput) (hout : runPhases phs s ≠ .error (.fault .outputAddress)) :
    EngineMove s₀ (finish (runPhases phs s)) := by
  induction phs generalizing s with
  | nil => exact .complete (hdata.complete_inv herr hcode) rfl rfl (.inr hcompress)
  | cons ph phs ih =>
    have hops : ∀ i ∈ phaseOps ph, i ≠ .compress := fun i hi => (phaseOps_issuable ph i hi).1
    have hreach := Reaches.runOps hops { s with phase := ph }
    rw [runPhases, setPhase, andThen_ok] at hout ⊢
    cases hr : runOps (phaseOps ph) { s with phase := ph } with
    | ok t =>
      obtain ⟨htn, htdata⟩ := hreach.ok t hr
      have hcontrol := (runOps_framed hops).control_eq hr
      rw [hr, andThen_ok] at hout
      exact ih (htdata { hdata with }) ((congrArg Control.err hcontrol).trans herr)
        ((congrArg Control.errcode hcontrol).trans hcode) (htn.le.trans hn) hout
    | error e =>
      cases e with
      | raised u =>
        obtain ⟨v, rfl, -, hvdata⟩ := hreach.raised u hr
        exact .errorEntry (hvdata { hdata with }) (by decide)
      | fault x =>
        cases x with
        | inputAddress => exact absurd (hreach.inFault hr) (Nat.not_lt.mpr hn)
        | outputAddress => exact absurd (by rw [hr, andThen_error]) hout

/-- COMPRESS completes where no bits stand yet. -/
theorem opCompress_ok {s : State} (hn : s.n ≤ Config.defaultMaxInput) (hbits : s.bits = [])
    (hfreq : ∀ a, (s.freq a).length = a.size) : ∃ t, opCompress params s = .ok t := by
  obtain ⟨t, hcoding, hcoded, htn⟩ := codingPhases_ok s hn hbits hfreq
  obtain ⟨out, hwriting, -⟩ := writingPhases_ok t hcoded (htn.le.trans hn)
  exact ⟨_, andThen_of_ok (sizeCheck_ok (maxInput := params.maxInput) hn) <| andThen_of_ok hcoding <|
    andThen_of_ok hwriting rfl⟩

theorem engineMove_compress {s : State} (h : s.Running) {rest : List OpWord} (hq : s.opq = encode .compress :: rest) :
    EngineMove s (exec .compress { s with opq := rest }) := by
  have hdata : State.Data { s with opq := rest } := { h.data with }
  have hhead : s.opq.head? = some (encode .compress) := by rw [hq, List.head?_cons]
  show EngineMove s (finish (opCompress params { s with opq := rest }))
  rcases Nat.lt_or_ge Config.defaultMaxInput s.n with hlarge | hfit
  · rw [opCompress_tooLarge (P := params) (s := { s with opq := rest }) hlarge, finish_raise]
    exact .errorEntry hdata (by decide)
  · by_cases hout : opCompress params { s with opq := rest } = .error (.fault .outputAddress)
    · rw [hout]
      refine .outFault (.inr ⟨hhead, fun hnbits => ?_⟩)
      obtain ⟨t, ht⟩ := opCompress_ok (s := { s with opq := rest }) hfit (List.eq_nil_of_length_eq_zero hnbits)
        hdata.freqSize
      rw [ht] at hout
      cases hout
    · have hphases : opCompress params { s with opq := rest } =
          runPhases (.lz77 :: laterPhases) { s with opq := rest } := by
        rw [opCompress_eq_runPhases, sizeCheck_ok (maxInput := params.maxInput) (s := { s with opq := rest }) hfit,
          andThen_ok]
      rw [hphases] at hout ⊢
      exact engineMove_runPhases hhead hdata h.notErr h.noError hfit hout

/-- The move to the next phase raises the phase's code by one, to a phase that is neither DONE nor ERROR. -/
theorem phaseMoves_code : ∀ e ∈ phaseMoves, e.2.code = e.1.code + 1 ∧ e.2 ≠ .done ∧ e.2 ≠ .error := by
  decide

theorem phaseMoves_total {ph : Phase} (hidle : ph ≠ .idle) (hfinal : ph ≠ .finalize) (hdone : ph ≠ .done)
    (herror : ph ≠ .error) : ∃ ph', (ph, ph') ∈ phaseMoves := by
  cases ph <;> simp_all [phaseMoves]

theorem engineMove_advance {s : State} (h : s.Running) :
    EngineMove s (finish (advance Config.defaultMaxInput s)) := by
  by_cases hidle : s.phase = .idle
  · rw [advance_idle hidle]
    rcases Nat.lt_or_ge Config.defaultMaxInput s.n with hlarge | hfit
    · rw [sizeCheck_raise hlarge, andThen_raise, finish_raise]
      exact .errorEntry h.data (by decide)
    · rw [sizeCheck_ok hfit, andThen_ok, finish_ok]
      exact .enter (h.enter (by decide) (by decide) hfit) (by rw [hidle]; rfl) rfl
  · by_cases hfinal : s.phase = .finalize
    · rw [advance_finalize hfinal, finish_ok]
      exact .complete (h.data.complete_inv h.notErr h.noError) rfl rfl (.inl hfinal)
    · obtain ⟨ph, hmove⟩ := phaseMoves_total hidle hfinal h.phaseNotDone h.phaseNotError
      obtain ⟨hcode, hdone, herror⟩ := phaseMoves_code _ hmove
      rw [advance_phaseMove hmove rfl, finish_ok]
      exact .enter (h.enter hdone herror (h.inputFits hidle)) hcode rfl

theorem engineMove_of_running {s : State} (h : s.Running) : EngineMove s (engineStep s) := by
  cases hq : s.opq with
  | nil =>
    rw [engineStep_idle h.busy hq]
    exact engineMove_advance h
  | cons w rest =>
    obtain ⟨i, hi⟩ := h.issued w (hq ▸ List.mem_cons_self)
    rw [engineStep_issued h.busy hq hi]
    by_cases hcompress : i = .compress
    · subst hcompress
      obtain ⟨-, rfl⟩ := encodeOfDecode w _ hi
      exact engineMove_compress h hq
    · exact engineMove_operation h hcompress hq

/-- A turn in which the host is silent or lets the engine move. -/
def EngineTurn (s : State) : Prop := s.hostQ = [] ∨ ∃ q, s.hostQ = .wait :: q

theorem step_engineTurn {s : State} (h : EngineTurn s) : ∃ q, step s = engineStep { s with hostQ := q } := by
  rcases h with hsilent | ⟨q, hwait⟩
  · exact ⟨s.hostQ, step_silent hsilent⟩
  · exact ⟨q, step_wait hwait⟩

/-- In a state of the invariant the engine is quiet or makes a move; the schedule plays no part in it. -/
theorem engineTurn_cases {s : State} (h : s.Inv) (hturn : EngineTurn s) : ∃ q, s.busy = false ∧
    step s = .next { s with hostQ := q } ∨ s.Running ∧ EngineMove { s with hostQ := q } (step s) := by
  obtain ⟨q, hstep⟩ := step_engineTurn hturn
  rw [hstep]
  refine ⟨q, ?_⟩
  rcases Bool.eq_false_or_eq_true s.busy with hbusy | hbusy
  · have hrunning : State.Running { s with hostQ := q } := { h.running hbusy with data := { h.data with } }
    exact .inr ⟨h.running hbusy, engineMove_of_running hrunning⟩
  · exact .inl ⟨hbusy, engineStep_not_busy (s := { s with hostQ := q }) hbusy⟩

/-- Settles O7: the faults of `EngineMove` are the two named, and it has no refusal. -/
theorem engineMovesAreNeverRefused : Obligations.EngineMovesAreNeverRefused := by
  intro s h hturn
  obtain ⟨q, ⟨-, hstep⟩ | ⟨-, hmove⟩⟩ := engineTurn_cases h hturn
  · exact .inl ⟨_, hstep⟩
  · generalize hstep : step s = o at hmove
    cases hmove with
    | operation | enter | complete | raised => exact .inl ⟨_, rfl⟩
    | inFault hlarge => exact .inr (.inl ⟨rfl, hlarge⟩)
    | outFault hspill => exact .inr (.inr ⟨rfl, hspill⟩)

theorem not_sequenced_compress {s : State} (h : s.Sequenced) : s.opq.head? ≠ some (encode .compress) := by
  intro hhead
  obtain ⟨i, hi, hcode⟩ := List.mem_map.mp (h.subset (List.mem_of_mem_head? hhead))
  obtain ⟨hne, hwf⟩ := phaseOps_issuable s.phase i hi
  have hdecode : decode (encode i) = .ok .compress := by rw [hcode, decode_encode rfl]
  exact hne (Except.ok.inj ((decode_encode hwf).symm.trans hdecode))

theorem Phase.code_le (ph : Phase) : ph.code ≤ 14 := by cases ph <;> decide

theorem Phase.code_le_of_ne_error {ph : Phase} (h : ph ≠ .error) : ph.code ≤ 13 := by
  cases ph
  case error => exact absurd rfl h
  all_goals decide

/-- Settles O4: the phase stays, is the next one, or is DONE or ERROR, whose codes are above all that run. -/
theorem phaseOnlyMovesForward : Obligations.PhaseOnlyMovesForward := by
  intro s t h hturn hstep
  have stays (hphase : t.phase = s.phase) : s.phase.code ≤ t.phase.code ∧
      (t.phase.code ≤ 12 → t.phase.code ≤ s.phase.code + 1) ∧
      (s.Sequenced → t.phase = s.phase ∨ t.phase.code = s.phase.code + 1 ∨ t.phase = .error) := by
    rw [hphase]
    exact ⟨Nat.le_refl _, fun _ => Nat.le_succ _, fun _ => .inl rfl⟩
  obtain ⟨q, ⟨-, hquiet⟩ | ⟨hrunning, hmove⟩⟩ := engineTurn_cases h hturn
  · obtain rfl := Host.Outcome.next.inj (hstep.symm.trans hquiet)
    exact stays rfl
  · rw [hstep] at hmove
    cases hmove with
    | operation _ hphase _ => exact stays hphase
    | enter _ hcode _ => exact ⟨hcode ▸ Nat.le_succ _, fun _ => hcode.le, fun _ => .inr (.inl hcode)⟩
    | complete _ hphase _ hlast =>
      have hcode : t.phase.code = 13 := congrArg Phase.code hphase
      refine ⟨hcode ▸ Phase.code_le_of_ne_error hrunning.phaseNotError, fun hlow => ?_, fun hseq => ?_⟩
      · omega
      · rcases hlast with hfinal | hcompress
        · have hbefore : s.phase.code = 12 := congrArg Phase.code hfinal
          exact .inr (.inl (by rw [hcode, hbefore]))
        · exact absurd hcompress (not_sequenced_compress hseq)
    | raised _ hphase _ =>
      have hcode : t.phase.code = 14 := congrArg Phase.code hphase
      exact ⟨hcode ▸ Phase.code_le s.phase, fun hlow => by omega, fun _ => .inr (.inr hphase)⟩

end Sys2Proof.Machine
end

section
/-! PROOFS. The invariant under every step (R14, R18, R35, R36, R168, R190): a move of the engine or a transaction of the
host. -/

namespace Sys2Proof.Machine

theorem State.sequenced_of_quiet {t : State} (h : t.opq = []) : t.Sequenced := by
  rw [State.Sequenced, h]
  exact List.nil_suffix

theorem engineTurn_keeps {s t : State} (h : s.Inv) (hturn : EngineTurn s) (hstep : step s = .next t) :
    t.Inv ∧ (s.Sequenced → t.Sequenced) := by
  obtain ⟨q, ⟨-, hquiet⟩ | ⟨-, hmove⟩⟩ := engineTurn_cases h hturn
  · obtain rfl := Host.Outcome.next.inj (hstep.symm.trans hquiet)
    exact ⟨{ h with }, id⟩
  · rw [hstep] at hmove
    cases hmove with
    | operation hrunning hphase hopq =>
      refine ⟨hrunning.inv, fun hseq => ?_⟩
      have htail : t.opq <:+ s.opq := hopq ▸ List.suffix_cons _ t.opq
      rw [State.Sequenced, hphase]
      exact htail.trans hseq
    | enter hrunning _ hopq =>
      refine ⟨hrunning.inv, fun _ => ?_⟩
      rw [State.Sequenced, hopq]
    | complete hinv _ hopq _ => exact ⟨hinv, fun _ => State.sequenced_of_quiet hopq⟩
    | raised hinv _ hopq => exact ⟨hinv, fun _ => State.sequenced_of_quiet hopq⟩

/-- An accepted START gives a running state (R168). -/
theorem State.Inv.start_running {s : State} (h : s.Inv) : s.start.Running where
  busy := rfl
  notDone := rfl
  notErr := rfl
  noError := rfl
  phaseNotDone := by simp
  phaseNotError := by simp
  issued w hw := by cases hw
  inputFits hphase := absurd rfl hphase
  data := { h.data with
    outListed := fun k hk => absurd hk (Nat.not_lt_zero k)
    freqSize := s.length_freq_start
    lensSize := fun a => by rw [(s.start_registers a).2.1, List.length_replicate]
    codesSize := fun a => by rw [(s.start_registers a).2.2, h.codesSize a]
    lensCap := fun a l hl => by
      rw [(s.start_registers a).2.1] at hl
      exact List.eq_of_mem_replicate hl ▸ Nat.zero_le _
    hlitRange := .inl rfl
    hdistRange := .inl rfl
    hclenRange := .inl rfl
    tokRange := fun x hx => by cases hx
    rleRange := fun x hx => by cases hx
    rleCount := Nat.zero_le _
    liveRises := .nil
    liveInNode := fun i hi => by cases hi }

theorem hostWriteCtrl_keeps {s : State} (h : s.Inv) (v : RegWord) :
    (hostWriteCtrl v s).Inv ∧ (s.Sequenced → (hostWriteCtrl v s).Sequenced) := by
  unfold hostWriteCtrl
  split
  · exact ⟨h.start_running.inv, fun _ => List.nil_suffix⟩
  · exact ⟨h, id⟩

theorem hostReadOut_keeps {s : State} (h : s.Inv) (k : Nat) :
    (hostReadOut k s).Inv ∧ (s.Sequenced → (hostReadOut k s).Sequenced) := by
  unfold hostReadOut
  split
  · exact ⟨{ h with }, id⟩
  · exact ⟨{ h with }, id⟩

/-- A byte the host writes into IN: the form of the list and the range of its indices stay (R11). -/
theorem State.Inv.write {s : State} (h : s.Inv) {k : Nat} (v : Byte) (hk : k < Config.defaultMaxInput) :
    State.Inv { s with inp := Memory.write s.inp k v } :=
  { h with
    inWf := Memory.wf_write s.inp k v h.inWf
    inRange := fun c hc => by
      rcases Memory.mem_write hc with rfl | hc
      · exact hk
      · exact h.inRange c hc }

theorem hostWriteIn_keeps {s t : State} (h : s.Inv) {k : Nat} {v : Byte}
    (hstep : hostWriteIn Config.defaultMaxInput k v s = .next t) : t.Inv ∧ (s.Sequenced → t.Sequenced) := by
  unfold hostWriteIn at hstep
  split at hstep
  · cases hstep
  · split at hstep
    · obtain rfl := Host.Outcome.next.inj hstep
      exact ⟨h.write v ‹_›, id⟩
    · cases hstep

theorem hostWriteReg_keeps {s t : State} (h : s.Inv) {k : Nat} {v : RegWord} (hstep : hostWriteReg k v s = .next t) :
    t.Inv ∧ (s.Sequenced → t.Sequenced) := by
  unfold hostWriteReg at hstep
  split at hstep
  · obtain rfl := Host.Outcome.next.inj hstep
    exact hostWriteCtrl_keeps h v
  · unfold hostWriteInLen at hstep
    split at hstep
    · cases hstep
    · obtain rfl := Host.Outcome.next.inj hstep
      exact ⟨{ h with }, id⟩
  · obtain rfl := Host.Outcome.next.inj hstep
    exact ⟨h, id⟩
  · obtain rfl := Host.Outcome.next.inj hstep
    exact ⟨h, id⟩
  · obtain rfl := Host.Outcome.next.inj hstep
    exact ⟨h, id⟩
  · cases hstep

theorem hostReadReg_keeps {s t : State} (h : s.Inv) {k : Nat} (hstep : hostReadReg k s = .next t) :
    t.Inv ∧ (s.Sequenced → t.Sequenced) := by
  unfold hostReadReg at hstep
  split at hstep
  · obtain rfl := Host.Outcome.next.inj hstep
    exact ⟨{ h with }, id⟩
  · cases hstep

theorem hostStep_keeps {s t : State} (h : s.Inv) {op : HostOp} (hstep : hostStep op s = .next t) :
    t.Inv ∧ (s.Sequenced → t.Sequenced) := by
  cases op with
  | writeIn k v => exact hostWriteIn_keeps h hstep
  | writeReg k v => exact hostWriteReg_keeps h hstep
  | readReg k => exact hostReadReg_keeps h hstep
  | readOut k =>
    obtain rfl := Host.Outcome.next.inj hstep
    exact hostReadOut_keeps h k
  | reset =>
    obtain rfl := Host.Outcome.next.inj hstep
    exact ⟨{ resetSatisfiesTheInvariant.1 with }, fun _ => List.nil_suffix⟩

/-- Settles O5: the engine's moves by `EngineMove`, the host's transactions one by one. -/
theorem everyStepKeepsTheInvariant : Obligations.EveryStepKeepsTheInvariant := by
  intro s t h hstep
  rcases hq : s.hostQ with _ | ⟨turn, q⟩
  · exact engineTurn_keeps h (.inl hq) hstep
  · cases turn with
    | wait => exact engineTurn_keeps h (.inr ⟨q, hq⟩) hstep
    | act op =>
      rw [step_act hq] at hstep
      exact hostStep_keeps (s := { s with hostQ := q }) { h with } hstep

end Sys2Proof.Machine
end
